-- ==== Sys2Proof/Word.lean ====
section
/-! DEFINITION. The plain data the KS3140 handles: words, sequence numbers, generations, window records, runs,
entry contents, lane symbols, frames and host transactions. Types only: every computation over them stands
under Sys2Proof/Machine. -/

namespace Sys2Proof

/-- A byte of a frame, of a management transaction or of memory. -/
abbrev Byte := BitVec 8

/-- A data word of the host bus and the memory bus (scope file, "word"). -/
abbrev Word := BitVec 32

/-- A byte mask: bit k belongs to byte k of the word, byte 0 the least significant (R63). -/
abbrev Mask := BitVec 4

/-- A host word address, 22 bits (R42). -/
abbrev Addr := BitVec 22

/-- A sequence number, 0 to 4095, taken modulo 4096 (R4). -/
abbrev Seq := BitVec 12

/-- A generation, 0 to 65535 (R21). -/
abbrev Gen := BitVec 16

/-- A character of a lane: 12 bits, the bit of bit time 0 the most significant (R196). -/
abbrev Character := BitVec 12

/-- The id of a window record, 0 to 15 (R25). -/
abbrev WindowId := Fin 16

/-- What a captured write to a window waits for (R25). -/
inductive Mode where
  | async
  | sync
  deriving DecidableEq, Repr

/-- A window record (R25). Its id is its position in the bank. -/
structure Window where
  present : Bool
  basePage : Nat
  pageCount : Nat
  mode : Mode
  deriving DecidableEq, Repr

/-- An absent record in the normal form of R25. -/
def Window.absent : Window := { present := false, basePage := 0, pageCount := 1, mode := .async }

/-- A bank: one record for each id from 0 to 15 (R26). -/
abbrev Bank := Vector Window 16

/-- One word of a run: its data and its byte mask (R2). -/
structure MaskedWord where
  data : Word
  mask : Mask
  deriving DecidableEq, Repr

/-- A run of consecutive words (R2). Its length is the number of its words. The window id and the start are numbers
wide enough for what a received frame can carry: an id up to 255, a start of 24 bits (R102). -/
structure Run where
  window : Nat
  start : Nat
  words : List MaskedWord
  deriving DecidableEq, Repr

/-- The kind of an entry together with the kind's content (R1, R3). -/
inductive Content where
  | write (runs : List Run)
  | copy (run : Run)
  | table (records : Bank) (complete : Bool)
  | generation (g : Gen)
  | synced (g : Gen)
  deriving DecidableEq, Repr

/-- The three roles (R176). -/
inductive Role where
  | detached
  | primary
  | secondary
  deriving DecidableEq, Repr

/-- The reason a BYE frame carries (R98). -/
inductive ByeReason where
  | disabled
  | fault
  deriving DecidableEq, Repr

/-- The fields of a HELLO frame (R98). -/
structure HelloFrame where
  revision : Byte
  role : Role
  seen : Bool
  fresh : Bool
  consistent : Bool
  reject : Bool
  generation : Gen
  oldest : Seq
  next : Seq
  limit : Seq
  deriving DecidableEq, Repr

/-- The fields of a LINK frame (R98). -/
structure LinkFrame where
  ack : Seq
  limit : Seq
  nak : Bool
  reject : Bool
  deriving DecidableEq, Repr

/-- The fields of a DATA frame: one journal entry without its state and hold mark (R97). -/
structure DataFrame where
  seq : Seq
  content : Content
  deriving DecidableEq, Repr

/-- A frame of one of the four types (R96). -/
inductive Frame where
  | data (f : DataFrame)
  | link (f : LinkFrame)
  | hello (f : HelloFrame)
  | bye (r : ByeReason)
  deriving DecidableEq, Repr

/-- A lane symbol as the receiver decodes it (R92). -/
inductive Symbol where
  | data (b : Byte)
  | fill
  | start
  | stop
  | abort
  | invalid
  deriving DecidableEq, Repr

/-- A host WRITE: address, byte mask and data word (R42). -/
structure HostWrite where
  addr : Addr
  mask : Mask
  data : Word
  deriving DecidableEq, Repr

/-- A host transaction (R42). -/
inductive HostTxn where
  | read (addr : Addr)
  | write (w : HostWrite)
  deriving DecidableEq, Repr

/-- What the unaligned lane receiver has seen when it may align (R196): a number of consecutive 1 bits followed by a
1-to-0 transition, or the characters counted from one bit time. -/
inductive AlignCause where
  | ones (count : Nat)
  | characters (seen : List Character)
  deriving DecidableEq, Repr

/-- The twenty commands that have a command byte (R198). -/
inductive MgmtCommand where
  | readId
  | readStatus
  | readEvents
  | clearEvents
  | setEnables
  | readCounter
  | clearCounters
  | writeStagedWindow
  | readWindow
  | copyActiveToStaged
  | commitTable
  | readCopyState
  | setConfig
  | readConfig
  | setRole
  | promote
  | linkEnable
  | linkDisable
  | startResync
  | softReset
  deriving DecidableEq, Repr

end Sys2Proof
end

