-- ==== Sys2Proof/Config.lean ====
section
/-! DEFINITION. What one KS3140 fixes: its capacities, its identification, and the two free values: what memory
answers beyond its own size, and how far a frame had gone out when it was aborted. -/

namespace Sys2Proof.Config

/-- Words in a page (scope file, "page"). -/
def pageWords : Nat := 256

/-- Entries the Outbound Journal holds (R4). -/
def journalSlots : Nat := 64

/-- Entries the apply queue holds, counting the one under application (R147). -/
def applySlots : Nat := 32

/-- Words of a copy burst and of a COPY entry (R57). -/
def burstWords : Nat := 16

/-- Words a WRITE entry holds at most (R2). -/
def entryWords : Nat := 16

/-- Runs a WRITE entry holds at most (R2). -/
def entryRuns : Nat := 4

/-- Free journal slots the Copy Engine asks for (R165). -/
def copySlots : Nat := 8

/-- Data bytes of the longest frame (R94). -/
def frameBytes : Nat := 112

/-- Consecutive rejections a primary answers with a restart (R126). -/
def rejectLimit : Nat := 3

/-- The value at which a counter stays (R193). -/
def counterMax : Nat := 65535

/-- The identification of the part (R187). -/
def vendorCode : Byte := 0x6B#8
def deviceCode : BitVec 16 := 0x3140#16
def siliconRevision : Byte := 0x01#8
def linkRevision : Byte := 0x01#8

/-- DESIGN CHOICE (log entry 2, unsafe). What a byte of memory that nothing has written reads as: the manual gives the
memory behind the device no contents. -/
def unwrittenByte : Byte := 0x00#8

/-- DESIGN CHOICE (log entry 3, safe). The memory's own answer to an access at an address beyond its size (R50): the
manual leaves it to the memory. No body, so no proof can rest on its value; it is applied to the number of such
operations so far and to the address. -/
opaque beyondMemory : Nat → Nat → Word

/-- DESIGN CHOICE (log entry 30, safe). How many data bytes of a frame had gone out when its next symbol became ABORT
(R109): time alone decides that, and the model keeps none. No body; it is applied to the number of frames aborted so
far. -/
opaque bytesBeforeAbort : Nat → Nat

end Sys2Proof.Config
end

