-- ==== Sys2Proof/Syntax.lean ====
section
/-! DEFINITION. The commands: one constructor per row of spec/opcode_table.json, in the table's order. A management
command with arguments carries the argument bytes that arrive with it (R184, R185): fewer than the command takes leave
the transaction in its ARGUMENTS phase, and the same command may bring the rest. -/

namespace Sys2Proof

/-- The steps of the part, each whole and indivisible. -/
inductive Instr where
  /-- MANAGEMENT_TRANSACTION: a falling edge of CS_N (R184). -/
  | managementTransaction
  /-- DESELECT: a rising edge of CS_N (R185). -/
  | deselect
  | readId
  | readStatus
  | readEvents
  | clearEvents (args : List Byte)
  | setEnables (args : List Byte)
  | readCounter (args : List Byte)
  | clearCounters
  | writeStagedWindow (args : List Byte)
  | readWindow (args : List Byte)
  | copyActiveToStaged
  | commitTable
  | readCopyState (args : List Byte)
  | setConfig (args : List Byte)
  | readConfig (args : List Byte)
  | setRole (args : List Byte)
  | promote (args : List Byte)
  | linkEnable
  | linkDisable
  | startResync
  | softReset
  /-- UNKNOWN_COMMAND: a command byte that names no command (R186). -/
  | unknownCommand (code : Byte)
  /-- POWER_ON_RESET: `wordsEnded` counts the word accesses of the memory operation in progress that have ended when
  the reset has stopped it (R58). -/
  | powerOnReset (wordsEnded : Nat)
  /-- PIN_RESET: RESET_N low for `lowNs` nanoseconds; `wordsEnded` as for the power-on reset. -/
  | pinReset (lowNs : Nat) (wordsEnded : Nat)
  | resetEnd
  /-- HOST_TRANSACTION: the host presents a READ or a WRITE (R42). -/
  | hostTransaction (t : HostTxn)
  | hostReadCompletion
  | hostWriteCompletion
  | applyOperationCompletion
  | copyBurstCompletion
  | applyTake
  | copyPick
  | copyBurstRequest
  | stalledWriteRepresentation
  | commitCompletion
  | syncedAppend
  | promotionCompletion
  | sealAgeExpiry
  | stallTimerExpiry
  | holdTimerExpiry
  | ackTimerExpiry
  | silenceTimerExpiry
  | helloTimerExpiry
  | statusIntervalExpiry
  /-- SYMBOL_RECEIVED: one character on the receive lane (R100, R196). -/
  | symbolReceived (c : Character)
  /-- HELLO_RECEIVED: a good HELLO frame is dispatched (R103, R115). -/
  | helloReceived (f : HelloFrame)
  | byeReceived (r : ByeReason)
  | linkReceived (f : LinkFrame)
  | dataReceived (f : DataFrame)
  | frameStart
  | dataFrameEnd
  | frameEnd
  | byeDisabledEnd
  | byeFaultEnd
  /-- CHARACTER_ALIGNMENT: what the unaligned receiver has seen (R196). -/
  | characterAlignment (cause : AlignCause)
  deriving DecidableEq, Repr

end Sys2Proof
end

