-- ==== Sys2Proof/Machine/State.lean ====
section
/-! DEFINITION. The state of a KS3140, block by block as the manual's block diagram has them, the reasons a step can
stop, and the state right after a power-on or pin reset. All of it is plain data. A timer is `none` when it is stopped
and `some t` when it runs, t being the time in µs it was last started or restarted with (log entry 4). -/

namespace Sys2Proof.Machine

/-- A timer: stopped, or running with the time in µs it was last started with (scope file, "Time"). -/
abbrev Timer := Option Nat

/-! ## Management Port, Event Unit and counters -/

/-- The phase of the Management Port (R184). `arguments` holds the command and the argument bytes so far; `response`
holds the bytes that SDO carries, result byte first, and whether the transaction selected SOFT_RESET (R195). -/
inductive MgmtPhase where
  | idle
  | command
  | arguments (cmd : MgmtCommand) (got : List Byte)
  | response (bytes : List Byte) (softReset : Bool)
  deriving DecidableEq, Repr

/-- The Management Port: the level of CS_N and the phase (R184). -/
structure MgmtPort where
  csLow : Bool
  phase : MgmtPhase
  deriving DecidableEq, Repr

/-- The twelve events of the Event Unit; bit k of each field belongs to event id k (R190 to R192). -/
structure EventUnit where
  flags : BitVec 12
  repeats : BitVec 12
  enables : BitVec 12
  deriving DecidableEq, Repr

/-- The nine configuration parameters, in their units (R189). -/
structure Params where
  memPages : Nat
  sealAge : Nat
  ackTimeout : Nat
  retryLimit : Nat
  statusInterval : Nat
  silenceTimeout : Nat
  helloInterval : Nat
  holdTimeout : Nat
  stallTimeout : Nat
  deriving DecidableEq, Repr

/-! ## Window Table and role -/

/-- The two banks and the commit (R26, R34). -/
structure WindowTable where
  active : Bank
  staged : Bank
  commitPending : Bool
  deriving DecidableEq, Repr

/-- The role with its two further items (R176). -/
structure PartRole where
  role : Role
  promotionPending : Bool
  forced : Bool
  deriving DecidableEq, Repr

/-! ## Access Path -/

/-- The state of the host port together with the transaction in progress (R43). In `request`, `standing` says that the
request stands at the arbiter: it is false for a stalled write whose stall has ended and which has not been
re-presented yet (R53, log entry 5); `plainly` marks a write that a soft reset took out of STALLED, to be performed
without classification (R59). -/
inductive HostState where
  | idle
  | request (t : HostTxn) (standing plainly : Bool)
  | access (t : HostTxn)
  | stalled (w : HostWrite)
  | held (w : HostWrite)
  deriving DecidableEq, Repr

/-- How a host transaction ended (R42): read data, write done, or write refused with WERR. -/
inductive Completion where
  | readData (d : Word)
  | writeDone
  | writeRefused
  deriving DecidableEq, Repr

/-- The host port: its state, and the completion last given to the host, none while a transaction is in progress. -/
structure HostPort where
  state : HostState
  completion : Option Completion
  deriving DecidableEq, Repr

/-- The holder of the memory port: IDLE, or BUSY with one of the four operations (R44). -/
inductive PortHolder where
  | idle
  | hostRead
  | hostWrite
  | apply
  | burst
  deriving DecidableEq, Repr

/-- The last grant of the arbiter (R46). -/
inductive Grant where
  | host
  | engine
  deriving DecidableEq, Repr

/-- The memory port and the arbiter. -/
structure MemoryPort where
  holder : PortHolder
  lastGrant : Grant
  deriving DecidableEq, Repr

/-- The memory behind the device: its bytes in canonical form (byte k of the word at address a has the key 4·a + k),
and two fields of the model's own: how many pages of memory the board has (log entry 3), and how many
operations have asked memory for a value beyond its size, which selects the next free value. -/
structure Memory where
  cells : List Host.Cell
  fittedPages : Nat
  freeReads : Nat
  deriving DecidableEq, Repr

/-! ## Capture Unit and Hold Unit -/

/-- The timers of the Capture Unit (R61). Its stall state is STALLED exactly while the host port is. -/
structure CaptureUnit where
  stallTimer : Timer
  sealTimer : Timer
  deriving DecidableEq, Repr

/-- How the most recent hold ended (R80). -/
inductive HoldOutcome where
  | none
  | released
  | timeout
  | abandoned
  deriving DecidableEq, Repr

/-- The Hold Unit (R80). -/
structure HoldUnit where
  holding : Bool
  timer : Timer
  last : HoldOutcome
  deriving DecidableEq, Repr

/-! ## Outbound Journal -/

/-- The states of a journal entry: OPEN, READY, INFLIGHT (R7). -/
inductive EntryState where
  | opened
  | ready
  | inflight
  deriving DecidableEq, Repr

/-- A journal entry (R1). -/
structure Entry where
  seq : Seq
  content : Content
  state : EntryState
  held : Bool
  deriving DecidableEq, Repr

/-- The restart reasons (R20, R173). -/
inductive RestartReason where
  | none
  | command
  | stall
  | join
  | peerReject
  | role
  | promote
  deriving DecidableEq, Repr

/-- The Outbound Journal, oldest entry first (R4, R5, R17, R21). `oldest`, the count and `fresh` are functions of it. -/
structure Journal where
  entries : List Entry
  nextSeq : Seq
  sendPoint : Seq
  generation : Gen
  lastRestart : RestartReason
  heldRewind : Option Seq
  deriving DecidableEq, Repr

/-! ## Copy Map and Copy Engine -/

/-- A copy state; the cursor exists only in COPYING (R163). -/
inductive CopyState where
  | untracked
  | pending
  | copying (cursor : Nat)
  | clean
  deriving DecidableEq, Repr

/-- The Copy Engine (R165): the window and the cursor its burst was requested at, and whether a soft reset has made
the burst in progress void (R168). -/
inductive CopyEngine where
  | idle
  | waiting (window : WindowId) (cursor : Nat)
  | reading (window : WindowId) (cursor : Nat) (void : Bool)
  deriving DecidableEq, Repr

/-- The Copy Map with the sync owed mark, and the Copy Engine. -/
structure CopyUnit where
  states : Vector CopyState 16
  syncOwed : Bool
  engine : CopyEngine
  deriving DecidableEq, Repr

/-! ## Session Controller -/

/-- The session states (R111). -/
inductive SessionState where
  | off
  | seek
  | up
  | closing
  | fault
  deriving DecidableEq, Repr

/-- The loss reasons (R121). -/
inductive LossReason where
  | none
  | peerHello
  | peerBye
  | silence
  | retryLimit
  | resync
  | disabled
  | fault
  deriving DecidableEq, Repr

/-- The fault causes (R111). -/
inductive FaultCause where
  | none
  | revision
  | role
  | rejectLimit
  deriving DecidableEq, Repr

/-- The Session Controller (R111). -/
structure SessionUnit where
  state : SessionState
  seen : Bool
  lastLoss : LossReason
  faultCause : FaultCause
  rejectRestarts : Nat
  helloTimer : Timer
  deriving DecidableEq, Repr

/-! ## Link Transmitter and Link Receiver -/

/-- The frame in transmission (R106); a DATA frame carries the entry of the given seq. -/
inductive TxKind where
  | data (seq : Seq)
  | hello
  | link
  | bye (r : ByeReason)
  deriving DecidableEq, Repr

/-- A frame in transmission with its data bytes, fixed at its START (R108). -/
structure TxFrame where
  kind : TxKind
  bytes : List Byte
  deriving DecidableEq, Repr

/-- How the last frame on the transmit lane ended: the model's view of the lane's last control symbol (R93, R108, R109).
An aborted frame is kept with its data bytes, of which the lane has carried a part (log entry 30). -/
inductive FrameEnding where
  | none
  | ended
  | aborted (bytes : List Byte)
  deriving DecidableEq, Repr

/-- The Link Transmitter: IDLE or SENDING, with the BYE and HELLO frames that are due (R106). `aborts`, the model's own,
counts the frames aborted so far and selects the free value of log entry 30. -/
structure Transmitter where
  sending : Option TxFrame
  byeDue : Option ByeReason
  helloDue : Bool
  lastEnding : FrameEnding
  aborts : Nat
  deriving DecidableEq, Repr

/-- The framing state with the frame buffer (R99, R100). -/
inductive Framing where
  | hunt
  | frame (buffer : List Byte)
  deriving DecidableEq, Repr

/-- The Link Receiver: character alignment (R196), framing, silence timer (R105), and the good frames on their way to
the block that handles them, in the order of their ENDs (R103, log entry 6). -/
structure Receiver where
  aligned : Bool
  framing : Framing
  silenceTimer : Timer
  good : List Frame
  deriving DecidableEq, Repr

/-! ## Delivery logic and Apply Queue -/

/-- The Delivery logic of a primary (R131). -/
structure SendDelivery where
  peerLimit : Seq
  retryCount : Nat
  ackTimer : Timer
  deriving DecidableEq, Repr

/-- The Delivery logic of a secondary (R132). -/
structure AckDelivery where
  linkPending : Bool
  nakMark : Bool
  nakArmed : Bool
  statusTimer : Timer
  deriving DecidableEq, Repr

/-- The Apply Engine with its working entry (R147, R149). -/
inductive ApplyEngine where
  | idle
  | waiting (e : DataFrame)
  | writing (e : DataFrame)
  deriving DecidableEq, Repr

/-- The Apply Queue: queued entries oldest first, the engine, and the secondary's view of its memory (R147 to R158).
`limit` is a function of it (R148). -/
structure ApplyUnit where
  queue : List DataFrame
  engine : ApplyEngine
  expected : Seq
  lastApplied : Option Seq
  streamGeneration : Gen
  dataGeneration : Gen
  consistent : Bool
  reject : Bool
  deriving DecidableEq, Repr

/-! ## The whole part -/

/-- The state of a KS3140. `inReset` holds from the start of a power-on or pin reset to its end (R194). `pending` is
the queue of the commands that wait, the model's own; no command reads or writes it. -/
structure State where
  inReset : Bool
  mgmt : MgmtPort
  events : EventUnit
  counters : Vector Nat 15
  params : Params
  table : WindowTable
  part : PartRole
  host : HostPort
  port : MemoryPort
  mem : Memory
  capture : CaptureUnit
  hold : HoldUnit
  journal : Journal
  copy : CopyUnit
  session : SessionUnit
  tx : Transmitter
  rx : Receiver
  sender : SendDelivery
  acker : AckDelivery
  applyq : ApplyUnit
  pending : List Instr
  deriving DecidableEq, Repr

def State.setInReset (s : State) (x : Bool) : State := { s with inReset := x }
def State.setMgmt (s : State) (x : MgmtPort) : State := { s with mgmt := x }
def State.setEvents (s : State) (x : EventUnit) : State := { s with events := x }
def State.setCounters (s : State) (x : Vector Nat 15) : State := { s with counters := x }
def State.setParams (s : State) (x : Params) : State := { s with params := x }
def State.setTable (s : State) (x : WindowTable) : State := { s with table := x }
def State.setPart (s : State) (x : PartRole) : State := { s with part := x }
def State.setHost (s : State) (x : HostPort) : State := { s with host := x }
def State.setPort (s : State) (x : MemoryPort) : State := { s with port := x }
def State.setMem (s : State) (x : Memory) : State := { s with mem := x }
def State.setCapture (s : State) (x : CaptureUnit) : State := { s with capture := x }
def State.setHold (s : State) (x : HoldUnit) : State := { s with hold := x }
def State.setJournal (s : State) (x : Journal) : State := { s with journal := x }
def State.setCopy (s : State) (x : CopyUnit) : State := { s with copy := x }
def State.setSession (s : State) (x : SessionUnit) : State := { s with session := x }
def State.setTx (s : State) (x : Transmitter) : State := { s with tx := x }
def State.setRx (s : State) (x : Receiver) : State := { s with rx := x }
def State.setSender (s : State) (x : SendDelivery) : State := { s with sender := x }
def State.setAcker (s : State) (x : AckDelivery) : State := { s with acker := x }
def State.setApplyq (s : State) (x : ApplyUnit) : State := { s with applyq := x }
def State.setPending (s : State) (x : List Instr) : State := { s with pending := x }

/-! ## Stops -/

/-- Why the machine stops with a fault. -/
inductive Fault where
  /-- Raised by COPY_BURST_COMPLETION when a burst that is not void finds the journal without a free slot. The manual
  says that this does not arise (R10, R165); the model stops there instead of choosing an effect. Safe. -/
  | copyEntryWithoutSlot
  deriving DecidableEq, Repr

/-- Why a command is refused. -/
inductive Refusal where
  /-- Raised by exec for a command that has no meaning yet. Safe. -/
  | notModelled (mnemonic : String)
  /-- Raised for a term that spells no event of the part: an UNKNOWN_COMMAND whose byte names a command
  (R186), or a frame given as good that fails check 5 of the receiver (R101). Safe. -/
  | illFormed
  deriving DecidableEq, Repr

/-! ## Reset -/

/-- The defaults of the configuration parameters (R189). -/
def Params.defaults : Params :=
  { memPages := 16384, sealAge := 16, ackTimeout := 20, retryLimit := 6, statusInterval := 10, silenceTimeout := 10,
    helloInterval := 5, holdTimeout := 20, stallTimeout := 10 }

/-- The part right after a power-on or pin reset has ended (R22, R41, R58, R79, R80, R110, R130, R145, R146, R161,
R175, R176, R194, R196). -/
def State.reset : State :=
  { inReset := false
    mgmt := { csLow := false, phase := .idle }
    events := { flags := 0#12, repeats := 0#12, enables := 0#12 }
    counters := Vector.replicate 15 0
    params := Params.defaults
    table := { active := Vector.replicate 16 Window.absent, staged := Vector.replicate 16 Window.absent,
               commitPending := false }
    part := { role := .detached, promotionPending := false, forced := false }
    host := { state := .idle, completion := none }
    port := { holder := .idle, lastGrant := .engine }
    mem := { cells := [], fittedPages := 16384, freeReads := 0 }
    capture := { stallTimer := none, sealTimer := none }
    hold := { holding := false, timer := none, last := .none }
    journal := { entries := [], nextSeq := 0#12, sendPoint := 0#12, generation := 0#16, lastRestart := .none,
                 heldRewind := none }
    copy := { states := Vector.replicate 16 .untracked, syncOwed := false, engine := .idle }
    session := { state := .off, seen := false, lastLoss := .none, faultCause := .none, rejectRestarts := 0,
                 helloTimer := none }
    tx := { sending := none, byeDue := none, helloDue := false, lastEnding := .none, aborts := 0 }
    rx := { aligned := false, framing := .hunt, silenceTimer := none, good := [] }
    sender := { peerLimit := 0#12, retryCount := 0, ackTimer := none }
    acker := { linkPending := false, nakMark := false, nakArmed := true, statusTimer := none }
    applyq := { queue := [], engine := .idle, expected := 0#12, lastApplied := none, streamGeneration := 0#16,
                dataGeneration := 0#16, consistent := false, reject := false }
    pending := [] }

end Sys2Proof.Machine
end

