-- ==== Sys2Proof/Machine/Operands.lean ====
section
/-! DEFINITION. Arithmetic on sequence numbers and generations, byte masks, window records and banks, runs, argument
bytes, and the characters of a lane. Nothing here reads or writes State. -/

namespace Sys2Proof

/-! ## Sequence numbers and generations -/

/-- s precedes t when (t − s) mod 4096 lies in 1..2047 (R4). -/
def seqPrecedes (s t : Seq) : Bool :=
  decide (1 ≤ (t - s).toNat ∧ (t - s).toNat ≤ 2047)

/-- s lies in [a, b] when (s − a) mod 4096 is no greater than (b − a) mod 4096 (R4). -/
def seqLiesIn (s a b : Seq) : Bool :=
  decide ((s - a).toNat ≤ (b - a).toNat)

/-- The generation after g: 65535 is followed by 1 (R21). -/
def nextGeneration (g : Gen) : Gen :=
  if g = 65535#16 then 1#16 else g + 1#16

/-- The greater of two generations (R21). -/
def maxGeneration (a b : Gen) : Gen :=
  if a.toNat < b.toNat then b else a

/-! ## Bytes and masks -/

/-- Byte k of a word; byte 0 is the least significant (R63). -/
def wordByte (w : Word) (k : Nat) : Byte :=
  (w >>> (8 * k)).truncate 8

/-- The word of four bytes, byte 3 first (R94). -/
def wordOfBytes (b3 b2 b1 b0 : Byte) : Word :=
  b3 ++ b2 ++ b1 ++ b0

/-- Whether bit k of a byte mask is set (R63). -/
def maskBit (m : Mask) (k : Nat) : Bool :=
  m.getLsbD k

/-- The bytes of `new` where the mask is set, the bytes of `old` elsewhere (R44, R63). -/
def mergeUnderMask (m : Mask) (new old : Word) : Word :=
  wordOfBytes
    (if maskBit m 3 then wordByte new 3 else wordByte old 3)
    (if maskBit m 2 then wordByte new 2 else wordByte old 2)
    (if maskBit m 1 then wordByte new 1 else wordByte old 1)
    (if maskBit m 0 then wordByte new 0 else wordByte old 0)

/-- The word a write stores in an entry when it is first stored: unmasked bytes 0 (R63, R64, R65, R67). -/
def HostWrite.stored (w : HostWrite) : MaskedWord :=
  { data := mergeUnderMask w.mask w.data 0#32, mask := w.mask }

/-- Two bytes as a number, most significant first (R94, 12.2). -/
def be16 (hi lo : Byte) : BitVec 16 :=
  hi ++ lo

/-- The two bytes of a 16-bit field, most significant first. -/
def be16Bytes (v : BitVec 16) : List Byte :=
  [(v >>> 8).truncate 8, v.truncate 8]

/-- A sequence field: the 12-bit value in its low 12 bits, the upper 4 bits 0 (R197). -/
def seqBytes (s : Seq) : List Byte :=
  be16Bytes (s.zeroExtend 16)

/-- The seq a received field carries: the field modulo 4096 (R197). -/
def seqOfBytes (hi lo : Byte) : Seq :=
  (be16 hi lo).truncate 12

/-- A flag as bit k of a byte. -/
def flagBit (b : Bool) (k : Nat) : Byte :=
  if b then (1#8 <<< k) else 0#8

/-! ## Windows and banks -/

/-- The ids in rising order. -/
def windowIds : List WindowId := List.finRange 16

/-- The first word of a window (R25). -/
def Window.firstWord (w : Window) : Nat := Config.pageWords * w.basePage

/-- The address after the last word of a window (R25). -/
def Window.endWord (w : Window) : Nat := Config.pageWords * (w.basePage + w.pageCount)

/-- Whether a record covers an address (R25, R26). -/
def Window.covers (w : Window) (a : Nat) : Bool :=
  w.present && decide (w.firstWord ≤ a ∧ a < w.endWord)

/-- The form in which a bank holds a record: an absent one in normal form (R25). -/
def Window.normal (w : Window) : Window :=
  if w.present then w else Window.absent

/-- The id of the window of a bank that an address falls in (R26). -/
def windowAt (b : Bank) (a : Nat) : Option WindowId :=
  windowIds.find? (fun i => b[i].covers a)

/-- Whether two records share no page, records that are not present sharing none (R27). -/
def Window.disjointFrom (v w : Window) : Bool :=
  !v.present || !w.present || decide (v.basePage + v.pageCount ≤ w.basePage) ||
    decide (w.basePage + w.pageCount ≤ v.basePage)

/-- A bank is valid against a page count (R27). -/
def bankValid (b : Bank) (pages : Nat) : Bool :=
  windowIds.all (fun i => !b[i].present || decide (b[i].basePage + b[i].pageCount ≤ pages)) &&
    windowIds.all (fun i => windowIds.all (fun j => decide (i = j) || b[i].disjointFrom b[j]))

/-- Every record of a bank in the form in which a bank holds it. -/
def bankNormal (b : Bank) : Bank :=
  Vector.ofFn (fun i : Fin 16 => b[i].normal)

/-- The lowest id of a bank's copy states that satisfies p. -/
def firstId (p : WindowId → Bool) : Option WindowId :=
  windowIds.find? p

/-! ## Runs and entries -/

/-- Whether an address lies inside a run (R2). -/
def Run.contains (r : Run) (a : Nat) : Bool :=
  decide (r.start ≤ a ∧ a < r.start + r.words.length)

/-- The words of a list of runs (R2). -/
def wordCount (rs : List Run) : Nat :=
  (rs.map (fun r => r.words.length)).sum

/-- The runs a content writes to memory, in order (R44). -/
def Content.runs : Content → List Run
  | .write rs => rs
  | .copy r => [r]
  | .table _ _ => []
  | .generation _ => []
  | .synced _ => []

/-- The word accesses of a run, from its start upward. -/
def runAccesses : Nat → List MaskedWord → List (Nat × MaskedWord)
  | _, [] => []
  | a, w :: ws => (a, w) :: runAccesses (a + 1) ws

/-- The word accesses of an apply operation: run by run, word by word (R44, R151). -/
def Content.accesses (c : Content) : List (Nat × MaskedWord) :=
  c.runs.flatMap (fun r => runAccesses r.start r.words)

/-- Test 1 of R62: the word at the write's address is updated in place (R63). -/
def Run.mergeAt (r : Run) (w : HostWrite) : Run :=
  let k := w.addr.toNat - r.start
  { r with words := r.words.modify k (fun old =>
      { data := mergeUnderMask w.mask w.data old.data, mask := old.mask ||| w.mask }) }

/-- Replace the first run that satisfies p. -/
def updateFirst (p : Run → Bool) (f : Run → Run) : List Run → List Run
  | [] => []
  | r :: rs => if p r then f r :: rs else r :: updateFirst p f rs

/-- Whether a run can be extended by a write to window `id` (test 2 of R62). -/
def Run.endsBefore (r : Run) (id : WindowId) (w : HostWrite) : Bool :=
  decide (r.window = id.val) && decide (0 < r.words.length) && decide (r.start + r.words.length = w.addr.toNat)

/-- The one-word run of a write (R65, R67). -/
def HostWrite.toRun (w : HostWrite) (id : WindowId) : Run :=
  { window := id.val, start := w.addr.toNat, words := [w.stored] }

/-- Tests 1 to 3 of R62 against the runs of the OPEN entry, and the action of the first that holds (R63, R64, R65);
none when test 4 holds (R66). -/
def coalesce (rs : List Run) (id : WindowId) (w : HostWrite) : Option (List Run) :=
  if rs.any (fun r => r.contains w.addr.toNat) then
    some (updateFirst (fun r => r.contains w.addr.toNat) (fun r => r.mergeAt w) rs)
  else if rs.any (fun r => r.endsBefore id w) && decide (wordCount rs < Config.entryWords) then
    some (updateFirst (fun r => r.endsBefore id w) (fun r => { r with words := r.words ++ [w.stored] }) rs)
  else if decide (rs.length < Config.entryRuns) && decide (wordCount rs < Config.entryWords) then
    some (rs ++ [w.toRun id])
  else none

/-- Validation of one run at the take (R150). -/
def runValid (b : Bank) (pages : Nat) (r : Run) : Bool :=
  if h : r.window < 16 then
    let v := b[r.window]
    v.present && decide (v.firstWord ≤ r.start) && decide (r.start + r.words.length ≤ v.endWord) &&
      decide (r.start + r.words.length ≤ Config.pageWords * pages)
  else false

/-- Validation of an entry at the take: R150 for WRITE and COPY, R153 for TABLE; GENERATION and SYNCED are not
validated (R154, R155). -/
def Content.validFor (c : Content) (b : Bank) (pages : Nat) : Bool :=
  match c with
  | .write rs => rs.all (runValid b pages)
  | .copy r => runValid b pages r
  | .table records _ => bankValid records pages
  | .generation _ => true
  | .synced _ => true

/-! ## Check 5 of the receiver, on fields (R102) -/

/-- A record of a received TABLE entry whose fields are within their ranges. -/
def Window.inRange (w : Window) : Bool :=
  decide (w.basePage ≤ 16383) && decide (1 ≤ w.pageCount) && decide (w.pageCount ≤ 16384)

/-- A run that a frame can carry: an id of one byte, a start of three bytes, 1 to 16 words. -/
def Run.wellFormed (r : Run) : Bool :=
  decide (r.window < 256) && decide (r.start < 16777216) && decide (1 ≤ r.words.length) &&
    decide (r.words.length ≤ 16)

/-- What check 5 requires of the content of a DATA frame (R102). -/
def Content.wellFormed : Content → Bool
  | .write rs =>
    decide (1 ≤ rs.length) && decide (rs.length ≤ 4) && rs.all Run.wellFormed &&
      decide (wordCount rs ≤ 16) && rs.all (fun r => r.words.all (fun w => w.mask != 0#4))
  | .copy r =>
    r.wellFormed && decide (r.words.length = 16) && r.words.all (fun w => w.mask == 15#4)
  | .table records _ => windowIds.all (fun i => records[i].inRange)
  | .generation g => g != 0#16
  | .synced g => g != 0#16

/-- What check 5 requires of a frame beyond what its type already gives (R102). -/
def Frame.wellFormed : Frame → Bool
  | .data f => f.content.wellFormed
  | .link _ => true
  | .hello f => f.role != .detached
  | .bye _ => true

/-! ## Characters of a lane (R196) -/

/-- The bit of a character at a bit time. -/
def charBit (c : Character) (time : Nat) : Bool :=
  c.getLsbD (11 - time)

/-- Whether bits 1 to 10 of a character hold an odd number of ones. -/
def parityOdd (c : Character) : Bool :=
  ((List.range 10).map (fun k => charBit c (k + 1))).foldl xor false

/-- The byte value of a character, bit times 2 to 9. -/
def charValue (c : Character) : Byte :=
  (c >>> 2).truncate 8

/-- The symbol a character decodes to; its start bit is not judged here. -/
def decodeCharacter (c : Character) : Symbol :=
  if charBit c 11 = false then .invalid
  else if parityOdd c = false then .invalid
  else if charBit c 1 = false then .data (charValue c)
  else if charValue c = 0x00#8 then .fill
  else if charValue c = 0x01#8 then .start
  else if charValue c = 0x02#8 then .stop
  else if charValue c = 0x03#8 then .abort
  else .invalid

/-- The character of a flag and a byte value: start bit 0, the parity that makes bits 1 to 10 odd, stop bit 1. -/
def makeCharacter (flag : Bool) (value : Byte) : Character :=
  let body : BitVec 9 := BitVec.ofBool flag ++ value
  let odd := ((List.range 9).map (fun k => body.getLsbD k)).foldl xor false
  (0#1 ++ body ++ BitVec.ofBool (!odd) ++ 1#1 : BitVec 12)

/-- The character a transmitter sends for a symbol; an invalid symbol is never sent. -/
def encodeSymbol : Symbol → Option Character
  | .data b => some (makeCharacter false b)
  | .fill => some (makeCharacter true 0x00#8)
  | .start => some (makeCharacter true 0x01#8)
  | .stop => some (makeCharacter true 0x02#8)
  | .abort => some (makeCharacter true 0x03#8)
  | .invalid => none

/-- A character that may stand in an alignment run: start bit 0, stop bit 1, correct parity, and no control character
with a byte value of 0x04 or above (R196). -/
def alignCharacter (c : Character) : Bool :=
  !charBit c 0 && decodeCharacter c != .invalid

/-- Whether what the unaligned receiver has seen aligns it (R196): at least 12 consecutive 1 bits before a 1-to-0
transition, or a run of 16 such characters with at least one control character among them. -/
def AlignCause.aligns : AlignCause → Bool
  | .ones count => decide (12 ≤ count)
  | .characters seen =>
    decide (seen.length = 16) && seen.all alignCharacter && seen.any (fun c => charBit c 1)

/-! ## Command codes and argument bytes -/

/-- The command byte of each command (R198). -/
def MgmtCommand.code : MgmtCommand → Byte
  | .readId => 0x10#8
  | .readStatus => 0x11#8
  | .readEvents => 0x12#8
  | .clearEvents => 0x13#8
  | .setEnables => 0x14#8
  | .readCounter => 0x15#8
  | .clearCounters => 0x16#8
  | .writeStagedWindow => 0x20#8
  | .readWindow => 0x21#8
  | .copyActiveToStaged => 0x22#8
  | .commitTable => 0x23#8
  | .readCopyState => 0x24#8
  | .setConfig => 0x30#8
  | .readConfig => 0x31#8
  | .setRole => 0x40#8
  | .promote => 0x41#8
  | .linkEnable => 0x42#8
  | .linkDisable => 0x43#8
  | .startResync => 0x44#8
  | .softReset => 0x5A#8

/-- The commands in the order of R198. -/
def mgmtCommands : List MgmtCommand :=
  [.readId, .readStatus, .readEvents, .clearEvents, .setEnables, .readCounter, .clearCounters,
   .writeStagedWindow, .readWindow, .copyActiveToStaged, .commitTable, .readCopyState, .setConfig, .readConfig,
   .setRole, .promote, .linkEnable, .linkDisable, .startResync, .softReset]

/-- The command a command byte selects; none for UNKNOWN (R186, R198). -/
def commandOfByte (b : Byte) : Option MgmtCommand :=
  mgmtCommands.find? (fun c => c.code == b)

/-- The number of argument bytes a command takes (12.2). -/
def MgmtCommand.argCount : MgmtCommand → Nat
  | .clearEvents => 2
  | .setEnables => 2
  | .readCounter => 1
  | .writeStagedWindow => 7
  | .readWindow => 2
  | .readCopyState => 1
  | .setConfig => 3
  | .readConfig => 1
  | .setRole => 1
  | .promote => 1
  | .readId => 0
  | .readStatus => 0
  | .readEvents => 0
  | .clearCounters => 0
  | .copyActiveToStaged => 0
  | .commitTable => 0
  | .linkEnable => 0
  | .linkDisable => 0
  | .startResync => 0
  | .softReset => 0

/-- Argument byte k of a command; 0 when it is missing, which no complete command shows. -/
def argByte (args : List Byte) (k : Nat) : Byte :=
  args.getD k 0#8

/-- The 16-bit argument at bytes k and k + 1, most significant byte first. -/
def argWord (args : List Byte) (k : Nat) : BitVec 16 :=
  be16 (argByte args k) (argByte args (k + 1))

/-- A yes-or-no argument: 0x00 or 0x01 (R198). -/
def boolOfByte (b : Byte) : Option Bool :=
  if b = 0x00#8 then some false else if b = 0x01#8 then some true else none

/-- A mode argument (R198). -/
def modeOfByte (b : Byte) : Option Mode :=
  if b = 0x00#8 then some .async else if b = 0x01#8 then some .sync else none

/-- A role argument (R198). -/
def roleOfByte (b : Byte) : Option Role :=
  if b = 0x00#8 then some .detached
  else if b = 0x01#8 then some .primary
  else if b = 0x02#8 then some .secondary
  else none

/-- The byte of a yes-or-no value. -/
def boolByte (b : Bool) : Byte :=
  if b then 0x01#8 else 0x00#8

/-- The byte of a mode. -/
def modeByte : Mode → Byte
  | .async => 0x00#8
  | .sync => 0x01#8

/-- The byte of a role in the status record (R198). -/
def roleByte : Role → Byte
  | .detached => 0x00#8
  | .primary => 0x01#8
  | .secondary => 0x02#8

/-- A window id from a byte; none outside 0..15. -/
def idOfByte (b : Byte) : Option WindowId :=
  if h : b.toNat < 16 then some ⟨b.toNat, h⟩ else none

end Sys2Proof
end

