-- ==== Sys2Proof/WellFormed.lean ====
section
/-! DEFINITION. Which terms of `Instr` spell a step of the part: the operands of a command that the manual lets occur.
A term that is not well formed is refused by name where it would need a meaning of its own, or changes nothing. -/

namespace Sys2Proof

/-- The operands a step can carry: an unknown command byte names no command (R186), a good frame has passed check 5
(R102), and an alignment follows one of the two causes of R196. Argument bytes beyond those a command takes are
ignored by the port (R185), so no number of them is ill formed. -/
def Instr.wellFormed : Instr → Bool
  | .managementTransaction => true
  | .deselect => true
  | .readId => true
  | .readStatus => true
  | .readEvents => true
  | .clearEvents _ => true
  | .setEnables _ => true
  | .readCounter _ => true
  | .clearCounters => true
  | .writeStagedWindow _ => true
  | .readWindow _ => true
  | .copyActiveToStaged => true
  | .commitTable => true
  | .readCopyState _ => true
  | .setConfig _ => true
  | .readConfig _ => true
  | .setRole _ => true
  | .promote _ => true
  | .linkEnable => true
  | .linkDisable => true
  | .startResync => true
  | .softReset => true
  | .unknownCommand code => (commandOfByte code).isNone
  | .powerOnReset _ => true
  | .pinReset _ _ => true
  | .resetEnd => true
  | .hostTransaction _ => true
  | .hostReadCompletion => true
  | .hostWriteCompletion => true
  | .applyOperationCompletion => true
  | .copyBurstCompletion => true
  | .applyTake => true
  | .copyPick => true
  | .copyBurstRequest => true
  | .stalledWriteRepresentation => true
  | .commitCompletion => true
  | .syncedAppend => true
  | .promotionCompletion => true
  | .sealAgeExpiry => true
  | .stallTimerExpiry => true
  | .holdTimerExpiry => true
  | .ackTimerExpiry => true
  | .silenceTimerExpiry => true
  | .helloTimerExpiry => true
  | .statusIntervalExpiry => true
  | .symbolReceived _ => true
  | .helloReceived f => (Frame.hello f).wellFormed
  | .byeReceived r => (Frame.bye r).wellFormed
  | .linkReceived f => (Frame.link f).wellFormed
  | .dataReceived f => (Frame.data f).wellFormed
  | .frameStart => true
  | .dataFrameEnd => true
  | .frameEnd => true
  | .byeDisabledEnd => true
  | .byeFaultEnd => true
  | .characterAlignment cause => cause.aligns

end Sys2Proof
end

