-- ==== Sys2Proof/Decode.lean ====
section
/-! DEFINITION. The command that a word spells. No row of spec/opcode_table.json gives bits (every row's list of fields
is empty), but R198 gives every management command a byte: a word is read as the bytes of a transaction, the command
byte first and lowest, its argument bytes after it. The other words of the part, a lane character and the bytes of a
frame, are read by `decodeCharacter` and `checkFrame`. -/

namespace Sys2Proof

/-- The command of a transaction: its row, with the argument bytes (R198). -/
def MgmtCommand.instr (c : MgmtCommand) (args : List Byte) : Instr :=
  match c with
  | .readId => .readId
  | .readStatus => .readStatus
  | .readEvents => .readEvents
  | .clearEvents => .clearEvents args
  | .setEnables => .setEnables args
  | .readCounter => .readCounter args
  | .clearCounters => .clearCounters
  | .writeStagedWindow => .writeStagedWindow args
  | .readWindow => .readWindow args
  | .copyActiveToStaged => .copyActiveToStaged
  | .commitTable => .commitTable
  | .readCopyState => .readCopyState args
  | .setConfig => .setConfig args
  | .readConfig => .readConfig args
  | .setRole => .setRole args
  | .promote => .promote args
  | .linkEnable => .linkEnable
  | .linkDisable => .linkDisable
  | .startResync => .startResync
  | .softReset => .softReset

/-- The command that the bytes of a transaction spell: the command byte selects it, the bytes its arguments take follow,
a byte that names no command is UNKNOWN, and no byte spells none (R184, R186, R198). -/
def decodeTransaction : List Byte → Option Instr
  | [] => none
  | code :: rest =>
    match commandOfByte code with
    | some c => some (c.instr (rest.take c.argCount))
    | none => some (.unknownCommand code)

/-- The first n bytes of a word, its lowest byte first. -/
def bytesOfWord : Nat → Nat → List Byte
  | 0, _ => []
  | n + 1, w => BitVec.ofNat 8 w :: bytesOfWord n (w / 256)

/-- The command a word of nbits bits spells: bits 7 to 0 are the command byte, and every bit above the word is 0, up to
the seven argument bytes of the longest command. A word of less than one byte spells none (log entry 23). -/
def decodeTableWord (nbits w : Nat) : Option Instr :=
  if nbits < 8 then none else decodeTransaction (bytesOfWord 8 (w % 2 ^ nbits))

end Sys2Proof
end

