-- ==== Sys2Proof/Machine/Flags.lean ====
section
/-! DEFINITION. The Event Unit and the counters: how an event sets its flag or its REPEAT companion, when ATTN_N is
driven, how a counter counts (R190 to R193). -/

namespace Sys2Proof.Machine

/-- The twelve events (12.4). -/
inductive Event where
  | linkUp
  | linkLost
  | linkFault
  | streamRestart
  | synced
  | commitDone
  | promoteDone
  | hostStall
  | syncLate
  | syncDegraded
  | writeBlocked
  | entryRejected
  deriving DecidableEq, Repr

/-- The id of an event (12.4). -/
def Event.id : Event → Nat
  | .linkUp => 0
  | .linkLost => 1
  | .linkFault => 2
  | .streamRestart => 3
  | .synced => 4
  | .commitDone => 5
  | .promoteDone => 6
  | .hostStall => 7
  | .syncLate => 8
  | .syncDegraded => 9
  | .writeBlocked => 10
  | .entryRejected => 11

/-- The bit of an event in the flag, REPEAT and enable fields (R191). -/
def Event.bit (e : Event) : BitVec 12 := 1#12 <<< e.id

/-- The fifteen counters (R193). -/
inductive Counter where
  | rxCrcErrors
  | rxFormatErrors
  | rxAborts
  | rxDuplicates
  | rxGaps
  | naksSent
  | naksReceived
  | retransmitTimeouts
  | streamRestarts
  | sessionLosses
  | syncLate
  | syncDegraded
  | writesBlocked
  | entriesRejected
  | hostStalls
  deriving DecidableEq, Repr

/-- The id of a counter (R193). -/
def Counter.id : Counter → Fin 15
  | .rxCrcErrors => 0
  | .rxFormatErrors => 1
  | .rxAborts => 2
  | .rxDuplicates => 3
  | .rxGaps => 4
  | .naksSent => 5
  | .naksReceived => 6
  | .retransmitTimeouts => 7
  | .streamRestarts => 8
  | .sessionLosses => 9
  | .syncLate => 10
  | .syncDegraded => 11
  | .writesBlocked => 12
  | .entriesRejected => 13
  | .hostStalls => 14

/-- Raising an event: its flag when that is clear, else its REPEAT companion (R190). -/
def EventUnit.raise (u : EventUnit) (e : Event) : EventUnit :=
  if u.flags &&& e.bit = 0#12 then { u with flags := u.flags ||| e.bit }
  else { u with repeats := u.repeats ||| e.bit }

/-- CLEAR_EVENTS: the flag and the REPEAT of every event in the mask (R191). -/
def EventUnit.clear (u : EventUnit) (mask : BitVec 12) : EventUnit :=
  { u with flags := u.flags &&& ~~~mask, repeats := u.repeats &&& ~~~mask }

/-- The event flags and REPEATs all clear, the enables kept (R195). -/
def EventUnit.clearAll (u : EventUnit) : EventUnit :=
  { u with flags := 0#12, repeats := 0#12 }

/-- Event e is raised (scope file, "Events"). -/
def raise (e : Event) (s : State) : State :=
  s.setEvents (s.events.raise e)

/-- Counter c is incremented unless it already holds 65535 (R193). -/
def count (c : Counter) (s : State) : State :=
  s.setCounters (s.counters.set c.id (min (s.counters[c.id] + 1) Config.counterMax))

/-- The value of a counter. -/
def counterValue (c : Counter) (s : State) : Nat :=
  s.counters[c.id]

/-- Whether the flag of an event is set. -/
def flagSet (e : Event) (s : State) : Bool :=
  s.events.flags &&& e.bit != 0#12

/-- Whether the REPEAT companion of an event is set. -/
def repeatSet (e : Event) (s : State) : Bool :=
  s.events.repeats &&& e.bit != 0#12

/-- Whether ATTN_N is driven low (R192): not while a reset lasts, otherwise while an event has both its flag and its
enable set. -/
def attnDriven (s : State) : Bool :=
  !s.inReset && (s.events.flags &&& s.events.enables != 0#12)

end Sys2Proof.Machine
end

