-- ==== Sys2Proof/Machine/Frames.lean ====
section
/-! DEFINITION. Frames as bytes: the CRC, the layout of each frame type, and the five checks a receiver makes (R94 to
R102, R197). Nothing here reads or writes State. -/

namespace Sys2Proof

/-! ## CRC (R95) -/

/-- One bit of the CRC register with the polynomial x^16 + x^12 + x^5 + 1. -/
def crcBit (r : BitVec 16) : BitVec 16 :=
  if r.getLsbD 15 then (r <<< 1) ^^^ 0x1021#16 else r <<< 1

/-- One byte, most significant bit first. -/
def crcByte (r : BitVec 16) (b : Byte) : BitVec 16 :=
  crcBit (crcBit (crcBit (crcBit (crcBit (crcBit (crcBit (crcBit (r ^^^ (b ++ 0#8)))))))))

/-- The register after some bytes, preset to 0xFFFF. -/
def crc16 (bytes : List Byte) : BitVec 16 :=
  bytes.foldl crcByte 0xFFFF#16

/-- The bytes followed by their CRC, high byte first. -/
def withCrc (bytes : List Byte) : List Byte :=
  bytes ++ be16Bytes (crc16 bytes)

/-! ## Layouts (R97, R98, R197) -/

/-- A word of a run: mask byte, then the data from byte 3 down to byte 0. -/
def MaskedWord.bytes (w : MaskedWord) : List Byte :=
  [w.mask.zeroExtend 8, wordByte w.data 3, wordByte w.data 2, wordByte w.data 1, wordByte w.data 0]

/-- A run: window id, start in three bytes, length, words. -/
def Run.bytes (r : Run) : List Byte :=
  [BitVec.ofNat 8 r.window, BitVec.ofNat 8 (r.start / 65536), BitVec.ofNat 8 (r.start / 256),
   BitVec.ofNat 8 r.start, BitVec.ofNat 8 r.words.length] ++ r.words.flatMap MaskedWord.bytes

/-- A window record: present, base_page, page_count, mode. -/
def Window.bytes (w : Window) : List Byte :=
  [boolByte w.present] ++ be16Bytes (BitVec.ofNat 16 w.basePage) ++ be16Bytes (BitVec.ofNat 16 w.pageCount) ++
    [modeByte w.mode]

/-- The kind byte and the kind body of a DATA frame. -/
def Content.bytes : Content → List Byte
  | .write rs => [0x01#8, BitVec.ofNat 8 rs.length] ++ rs.flatMap Run.bytes
  | .copy r => [0x02#8, 0x01#8] ++ r.bytes
  | .table records complete => [0x03#8, boolByte complete] ++ windowIds.flatMap (fun i => records[i].bytes)
  | .generation g => [0x04#8] ++ be16Bytes g
  | .synced g => [0x05#8] ++ be16Bytes g

/-- The flags byte of a LINK frame. -/
def LinkFrame.flags (f : LinkFrame) : Byte := flagBit f.nak 0 ||| flagBit f.reject 1

/-- The flags byte of a HELLO frame. -/
def HelloFrame.flags (f : HelloFrame) : Byte :=
  flagBit f.seen 0 ||| flagBit f.fresh 1 ||| flagBit f.consistent 2 ||| flagBit f.reject 3

/-- The reason byte of a BYE frame. -/
def byeByte : ByeReason → Byte
  | .disabled => 0x01#8
  | .fault => 0x02#8

/-- The type byte and the body of a frame. -/
def Frame.body : Frame → List Byte
  | .data f => [0x01#8] ++ seqBytes f.seq ++ f.content.bytes
  | .link f => [0x02#8] ++ seqBytes f.ack ++ seqBytes f.limit ++ [f.flags]
  | .hello f =>
    [0x03#8, f.revision, roleByte f.role, f.flags] ++ be16Bytes f.generation ++ seqBytes f.oldest ++
      seqBytes f.next ++ seqBytes f.limit
  | .bye r => [0x04#8, byeByte r]

/-- The data bytes of a frame (R94). -/
def Frame.bytes (f : Frame) : List Byte := withCrc f.body

/-- The symbols of a frame that ends with END (R94). -/
def frameSymbols (bytes : List Byte) : List Symbol :=
  [.start] ++ bytes.map Symbol.data ++ [.stop]

/-- The symbols of a frame that ends with ABORT in place of its next symbol, n of its data bytes having gone out (R93,
R109). -/
def abortedSymbols (bytes : List Byte) (n : Nat) : List Symbol :=
  [.start] ++ (bytes.take n).map Symbol.data ++ [.abort]

/-! ## Reading a frame (R101, R102) -/

/-- The words of a run; a mask byte above 15 is malformed (R197). -/
def parseWords : Nat → List Byte → Option (List MaskedWord × List Byte)
  | 0, rest => some ([], rest)
  | n + 1, m :: b3 :: b2 :: b1 :: b0 :: rest =>
    if m.toNat ≤ 15 then
      match parseWords n rest with
      | some (ws, r) => some ({ data := wordOfBytes b3 b2 b1 b0, mask := m.truncate 4 } :: ws, r)
      | none => none
    else none
  | _ + 1, _ => none

/-- The runs of a WRITE or COPY body. -/
def parseRuns : Nat → List Byte → Option (List Run × List Byte)
  | 0, rest => some ([], rest)
  | n + 1, w :: a2 :: a1 :: a0 :: len :: rest =>
    match parseWords len.toNat rest with
    | some (ws, r) =>
      match parseRuns n r with
      | some (rs, r') =>
        some ({ window := w.toNat, start := a2.toNat * 65536 + a1.toNat * 256 + a0.toNat, words := ws } :: rs, r')
      | none => none
    | none => none
  | _ + 1, _ => none

/-- Record i of the 96 bytes of a TABLE body after its complete flag. -/
def parseRecord (records : List Byte) (i : WindowId) : Option Window :=
  let at' (k : Nat) : Byte := records.getD (6 * i.val + k) 0#8
  match boolOfByte (at' 0), modeOfByte (at' 5) with
  | some present, some mode =>
    some { present := present, basePage := (be16 (at' 1) (at' 2)).toNat, pageCount := (be16 (at' 3) (at' 4)).toNat,
           mode := mode }
  | _, _ => none

/-- The content of a DATA frame from its kind byte onward. -/
def parseContent : List Byte → Option Content
  | 0x01#8 :: n :: rest =>
    match parseRuns n.toNat rest with
    | some (rs, []) => some (.write rs)
    | _ => none
  | 0x02#8 :: 0x01#8 :: rest =>
    match parseRuns 1 rest with
    | some ([r], []) => some (.copy r)
    | _ => none
  | 0x03#8 :: c :: rest =>
    match boolOfByte c with
    | some complete =>
      if rest.length = 96 ∧ windowIds.all (fun i => (parseRecord rest i).isSome) then
        some (.table (Vector.ofFn (fun i => (parseRecord rest i).getD Window.absent)) complete)
      else none
    | none => none
  | [0x04#8, hi, lo] => some (.generation (be16 hi lo))
  | [0x05#8, hi, lo] => some (.synced (be16 hi lo))
  | _ => none

/-- The frame types by their codes (R96). -/
inductive FrameType where
  | data
  | link
  | hello
  | bye
  deriving DecidableEq, Repr

/-- The frame type of a type byte (R96). -/
def frameTypeOfByte (b : Byte) : Option FrameType :=
  if b = 0x01#8 then some .data
  else if b = 0x02#8 then some .link
  else if b = 0x03#8 then some .hello
  else if b = 0x04#8 then some .bye
  else none

/-- Whether a role may receive a frame type (R96). -/
def mayReceive (role : Role) : FrameType → Bool
  | .data => role == .secondary
  | .link => role == .primary
  | .hello => true
  | .bye => true

/-- The fields of a frame from its type and its body without the CRC; none when the length or a code is outside R102. -/
def parseBody : FrameType → List Byte → Option Frame
  | .data, q1 :: q0 :: rest => (parseContent rest).map (fun c => .data { seq := seqOfBytes q1 q0, content := c })
  | .link, [a1, a0, l1, l0, f] =>
    some (.link { ack := seqOfBytes a1 a0, limit := seqOfBytes l1 l0, nak := f.getLsbD 0, reject := f.getLsbD 1 })
  | .hello, [rev, ro, f, g1, g0, o1, o0, n1, n0, l1, l0] =>
    (roleOfByte ro).map (fun role => .hello
      { revision := rev, role := role, seen := f.getLsbD 0, fresh := f.getLsbD 1, consistent := f.getLsbD 2,
        reject := f.getLsbD 3, generation := be16 g1 g0, oldest := seqOfBytes o1 o0, next := seqOfBytes n1 n0,
        limit := seqOfBytes l1 l0 })
  | .bye, [r] =>
    if r = 0x01#8 then some (.bye .disabled) else if r = 0x02#8 then some (.bye .fault) else none
  | _, _ => none

/-- The outcome of the five checks of R101, the first failure or a good frame. -/
inductive FrameCheck where
  | short
  | crcFailure
  | unknownType
  | wrongDirection
  | malformed
  | good (f : Frame)
  deriving DecidableEq, Repr

/-- The checks in their order (R101). -/
def checkFrame (role : Role) (buffer : List Byte) : FrameCheck :=
  if buffer.length < 3 then .short
  else if crc16 buffer ≠ 0#16 then .crcFailure
  else
    match frameTypeOfByte (buffer.headD 0#8) with
    | none => .unknownType
    | some t =>
      if mayReceive role t = false then .wrongDirection
      else
        match parseBody t ((buffer.drop 1).take (buffer.length - 3)) with
        | none => .malformed
        | some f => if f.wellFormed then .good f else .malformed

end Sys2Proof
end

