-- ==== Sys2Proof/Machine/Ops.lean ====
section
/-! DEFINITION. The operations the commands share: memory, the host port, holds and stalls, the Outbound Journal, the
transmitter and the session, stream restart, the Copy Map, commits, the apply queue, capture, and the memory arbiter. -/

namespace Sys2Proof.Machine

/-! ## Memory (R44, R50) -/

/-- The byte under a key; a key that is not listed reads as `Config.unwrittenByte`. -/
def readCell : List Host.Cell → Nat → Byte
  | [], _ => Config.unwrittenByte
  | (k, b) :: rest, n => if k = n then b else readCell rest n

/-- Write a byte under a key, keeping the keys rising and listing no byte equal to `Config.unwrittenByte`. -/
def writeCell (n : Nat) (v : Byte) : List Host.Cell → List Host.Cell
  | [] => if v = Config.unwrittenByte then [] else [(n, v)]
  | (k, b) :: rest =>
    if n < k then (if v = Config.unwrittenByte then (k, b) :: rest else (n, v) :: (k, b) :: rest)
    else if n = k then (if v = Config.unwrittenByte then rest else (n, v) :: rest)
    else (k, b) :: writeCell n v rest

/-- The canonical form of memory: keys strictly rising, no byte listed that an unlisted key reads as. -/
abbrev Memory.wf (m : Memory) : Prop :=
  m.cells.Pairwise (fun c d => c.1 < d.1) ∧ ∀ c ∈ m.cells, c.2 ≠ Config.unwrittenByte

/-- Byte k of the word at address a. -/
def Memory.byte (m : Memory) (a k : Nat) : Byte := readCell m.cells (4 * a + k)

/-- The word at address a. -/
def Memory.word (m : Memory) (a : Nat) : Word :=
  wordOfBytes (m.byte a 3) (m.byte a 2) (m.byte a 1) (m.byte a 0)

/-- Whether the memory behind the device has a word at address a. -/
def Memory.fits (m : Memory) (a : Nat) : Bool := decide (a < Config.pageWords * m.fittedPages)

/-- One word read: the word, or the memory's own answer beyond its size (R50). -/
def Memory.readWord (m : Memory) (a : Nat) : Word :=
  if m.fits a then m.word a else Config.beyondMemory m.freeReads a

/-- The memory after an operation that read these addresses: a read beyond the memory's size uses up a free value. -/
def Memory.afterReads (m : Memory) (addrs : List Nat) : Memory :=
  if addrs.all m.fits then m else { m with freeReads := m.freeReads + 1 }

/-- Write byte k of the word at address a when its mask bit is set. -/
def writeByteIf (mask : Mask) (data : Word) (a k : Nat) (cells : List Host.Cell) : List Host.Cell :=
  if maskBit mask k then writeCell (4 * a + k) (wordByte data k) cells else cells

/-- One word write with its byte mask (R44); ignored beyond the memory's size (R50). -/
def Memory.writeWord (m : Memory) (a : Nat) (w : MaskedWord) : Memory :=
  if m.fits a then
    { m with cells := writeByteIf w.mask w.data a 3 (writeByteIf w.mask w.data a 2
        (writeByteIf w.mask w.data a 1 (writeByteIf w.mask w.data a 0 m.cells))) }
  else m

/-- Word writes in order (R44, R151). -/
def Memory.writeAll (m : Memory) (accesses : List (Nat × MaskedWord)) : Memory :=
  accesses.foldl (fun m p => m.writeWord p.1 p.2) m

/-! ## Host completions, holds and stalls -/

/-- The host transaction ends with a completion (R42, R43). -/
def finishHost (c : Completion) (s : State) : State :=
  s.setHost { state := .idle, completion := some c }

/-- A write in HELD completes as write done; any other host port state is left alone (R82). -/
def completeHeld (s : State) : State :=
  match s.host.state with
  | .held _ => finishHost .writeDone s
  | _ => s

/-- A hold ends: timer stopped, hold state NONE, outcome recorded, the host write completed when it is HELD (5.3). -/
def endHold (o : HoldOutcome) (s : State) : State :=
  completeHeld (s.setHold { holding := false, timer := none, last := o })

/-- A stall ends: the stall timer stops and the write leaves STALLED for REQUEST; it reaches the arbiter with
STALLED_WRITE_REPRESENTATION (R53, R73, R74, R76; log entry 5). -/
def endStall (s : State) : State :=
  match s.host.state with
  | .stalled w =>
    (s.setHost { s.host with state := .request (.write w) false false }).setCapture
      { s.capture with stallTimer := none }
  | _ => s

/-- A stalled write whose stall has ended requests the memory port afresh (R53). -/
def represent (s : State) : State :=
  match s.host.state with
  | .request t false p => s.setHost { s.host with state := .request t true p }
  | _ => s

/-- A degraded SYNC write is reported (R89). -/
def degrade (s : State) : State :=
  count .syncDegraded (raise .syncDegraded s)

/-! ## Outbound Journal: positions -/

/-- The seq of the oldest entry, next_seq when there is none (R5). -/
def Journal.oldest (j : Journal) : Seq :=
  match j.entries with
  | [] => j.nextSeq
  | e :: _ => e.seq

/-- The count of entries (R5). -/
def Journal.count (j : Journal) : Nat := j.entries.length

/-- The free slots (R5). -/
def Journal.freeSlots (j : Journal) : Nat := Config.journalSlots - j.entries.length

/-- Whether the journal is fresh: its oldest entry is the GENERATION entry of the current generation (R6). -/
def Journal.fresh (j : Journal) : Bool :=
  match j.entries with
  | [] => false
  | e :: _ => e.content == .generation j.generation

/-- Whether there is an OPEN entry (R7). -/
def Journal.hasOpen (j : Journal) : Bool := j.entries.any (fun e => e.state == .opened)

/-- The runs of the OPEN entry, which is the newest entry (R7). -/
def Journal.openRuns (j : Journal) : Option (List Run) :=
  match j.entries.getLast? with
  | some { content := .write rs, state := .opened, .. } => some rs
  | _ => none

/-- The entry with a given seq. -/
def Journal.entryAt (j : Journal) (q : Seq) : Option Entry := j.entries.find? (fun e => e.seq == q)

/-- Change the newest entry. -/
def mapNewest (f : Entry → Entry) : List Entry → List Entry
  | [] => []
  | [e] => [f e]
  | e :: d :: es => e :: mapNewest f (d :: es)

/-! ## Copy Engine conditions -/

/-- The COPYING window with its cursor (R163). -/
def copyingWindow (s : State) : Option (WindowId × Nat) :=
  windowIds.findSome? (fun i =>
    match s.copy.states[i] with
    | .copying cursor => some (i, cursor)
    | _ => none)

/-- The run conditions of the Copy Engine (R165). -/
def copyMayRun (s : State) : Bool :=
  s.part.role == .primary && s.session.state == .up && decide (Config.copySlots ≤ s.journal.freeSlots)

/-- A request not yet granted is withdrawn when a run condition does not hold (R165, R45). -/
def withdrawCopy (s : State) : State :=
  match s.copy.engine with
  | .waiting _ _ => if copyMayRun s then s else s.setCopy { s.copy with engine := .idle }
  | _ => s

/-! ## Outbound Journal: seal, open, append, release, rewind, discard -/

/-- Sealing of one entry: OPEN becomes READY (R13). -/
def Entry.seal (e : Entry) : Entry :=
  if e.state = .opened then { e with state := .ready } else e

/-- The OPEN entry, if there is one, is sealed and the seal age timer stops (R13). -/
def sealOpen (s : State) : State :=
  (s.setJournal { s.journal with entries := s.journal.entries.map Entry.seal }).setCapture
    { s.capture with sealTimer := none }

/-- A new entry takes the seq next_seq, and next_seq advances (R4). -/
def pushEntry (c : Content) (st : EntryState) (s : State) : State :=
  s.setJournal { s.journal with
    entries := s.journal.entries ++ [{ seq := s.journal.nextSeq, content := c, state := st, held := false }]
    nextSeq := s.journal.nextSeq + 1#12 }

/-- The open operation (R9): a WRITE entry of one run, and the seal age timer starts (R14). -/
def openEntry (r : Run) (s : State) : State :=
  withdrawCopy ((pushEntry (.write [r]) .opened s).setCapture
    { s.capture with sealTimer := some s.params.sealAge })

/-- The append operation (R10): the OPEN entry is sealed, then the entry is placed READY. -/
def append (c : Content) (s : State) : State :=
  withdrawCopy (pushEntry c .ready (sealOpen s))

/-- Whether a release with n removes an entry when it reaches it (R15). -/
def releasable (n : Seq) (e : Entry) : Bool := seqPrecedes e.seq n && e.state != .opened

/-- The entries a release with n removes (R15). -/
def Journal.gone (j : Journal) (n : Seq) : List Entry := j.entries.takeWhile (releasable n)

/-- The journal a release with n leaves (R15). -/
def Journal.afterRelease (j : Journal) (n : Seq) : Journal :=
  let kept : Journal := { j with entries := j.entries.dropWhile (releasable n) }
  { kept with sendPoint := if seqPrecedes j.sendPoint kept.oldest then kept.oldest else j.sendPoint }

/-- Whether an entry is a SYNCED entry. -/
def Entry.isSynced (e : Entry) : Bool :=
  match e.content with
  | .synced _ => true
  | _ => false

/-- Release by acknowledgment (R15) with the results it hands on (R16): the hold of a removed entry ends RELEASED, a
removed SYNCED entry clears the reject-restart count, the retry count becomes 0, the ack timer restarts or stops
(R136), and a stalled write's stall ends (R73). -/
def release (n : Seq) (s : State) : State :=
  if s.journal.gone n = [] then s
  else
    let gone := s.journal.gone n
    let s := s.setJournal (s.journal.afterRelease n)
    let s := if gone.any (fun e => e.held) then endHold .released s else s
    let s := if gone.any Entry.isSynced then s.setSession { s.session with rejectRestarts := 0 } else s
    let s := s.setSender { s.sender with
      retryCount := 0
      ackTimer := if s.journal.entries.any (fun e => e.state == .inflight) then some (10 * s.params.ackTimeout)
                  else none }
    endStall s

/-- Rewinding of one entry to m: an INFLIGHT entry at m or after becomes READY (R17). -/
def Entry.rewind (m : Seq) (e : Entry) : Entry :=
  if e.state = .inflight ∧ seqPrecedes e.seq m = false then { e with state := .ready } else e

/-- The rewind of the send point to m, when no DATA frame is in transmission (R17). -/
def rewind (m : Seq) (s : State) : State :=
  if m = s.journal.sendPoint then s
  else s.setJournal { s.journal with entries := s.journal.entries.map (Entry.rewind m), sendPoint := m }

/-- A rewind held during a DATA frame is taken when the frame ends, at oldest when a release has moved oldest past
its target (R17, R135). -/
def takeHeldRewind (s : State) : State :=
  match s.journal.heldRewind with
  | none => s
  | some m =>
    rewind (if seqPrecedes m s.journal.oldest then s.journal.oldest else m)
      (s.setJournal { s.journal with heldRewind := none })

/-- Whether a DATA frame is in transmission. -/
def sendingData (s : State) : Bool :=
  match s.tx.sending with
  | some { kind := .data _, .. } => true
  | _ => false

/-- A rewind to m, held while a DATA frame is in transmission (R17). -/
def requestRewind (m : Seq) (s : State) : State :=
  if sendingData s then s.setJournal { s.journal with heldRewind := some m } else rewind m s

/-- A discard (R19): every entry is removed, oldest and the send point become next_seq, the seal age timer stops; a
hold on a discarded entry ends ABANDONED, with SYNC_LATE raised and counted (R85). -/
def discardJournal (s : State) : State :=
  let held := s.journal.entries.any (fun e => e.held)
  let s := s.setJournal { s.journal with entries := [], sendPoint := s.journal.nextSeq, heldRewind := none }
  let s := s.setCapture { s.capture with sealTimer := none }
  if held then count .syncLate (raise .syncLate (endHold .abandoned s)) else s

/-! ## Transmitter and session -/

/-- The frame in transmission is ended with ABORT; a held rewind is taken at once after it (R109, R17). When a session
loss is what aborts a DATA frame, R17 lets the held rewind be taken and R121 and R137 keep INFLIGHT entries INFLIGHT;
the model follows R17 (log entry 29). -/
def abortFrame (s : State) : State :=
  match s.tx.sending with
  | none => s
  | some f =>
    takeHeldRewind (s.setTx { s.tx with sending := none, lastEnding := .aborted f.bytes, aborts := s.tx.aborts + 1 })

/-- A HELLO is asked for (R106, R114). -/
def askHello (s : State) : State := s.setTx { s.tx with helloDue := true }

/-- The HELLO timer starts or restarts (R114). -/
def startHelloTimer (s : State) : State :=
  s.setSession { s.session with helloTimer := some (100 * s.params.helloInterval) }

/-- Entry to SEEK (R113). -/
def enterSeek (s : State) : State :=
  startHelloTimer (askHello (s.setSession { s.session with state := .seek, seen := false }))

/-- The effects of every departure from UP (R121), before those of the next state. -/
def leaveUp (r : LossReason) (s : State) : State :=
  let s := count .sessionLosses (raise .linkLost s)
  let s := s.setSession { s.session with lastLoss := r }
  let s := abortFrame s
  let s := s.setRx { s.rx with silenceTimer := none }
  let s := s.setSender { s.sender with ackTimer := none }
  let s := s.setAcker { s.acker with statusTimer := none }
  match s.copy.engine with
  | .waiting _ _ => s.setCopy { s.copy with engine := .idle }
  | _ => s

/-- The session leaves UP for SEEK with a loss reason (R121, R113). -/
def loseSession (r : LossReason) (s : State) : State := enterSeek (leaveUp r s)

/-- Entry to CLOSING (R123). -/
def enterClosing (s : State) : State :=
  let s := abortFrame s
  let s := s.setSession { s.session with state := .closing, helloTimer := none }
  s.setTx { s.tx with helloDue := false, byeDue := some .disabled }

/-- Entry to OFF (R99, R106, R109, R110, R114): a frame in transmission is aborted, nothing is due, the receiver goes to
HUNT with its buffer emptied. -/
def enterOff (s : State) : State :=
  let s := abortFrame s
  let s := s.setSession { s.session with state := .off, helloTimer := none }
  let s := s.setTx { s.tx with helloDue := false, byeDue := none }
  s.setRx { s.rx with framing := .hunt, good := [] }

/-- Entry to FAULT (R125), after the departure effects when the session was UP. -/
def enterFault (c : FaultCause) (s : State) : State :=
  let s := if s.session.state = .up then leaveUp .fault s else s
  let s := s.setSession { s.session with state := .fault, faultCause := c, helloTimer := none }
  let s := raise .linkFault s
  s.setTx { s.tx with helloDue := false, byeDue := some .fault }

/-! ## Copy Map, SYNCED append, stream restart, commit -/

/-- Whether every present window of a bank is CLEAN (R170, R171). -/
def allClean (b : Bank) (states : Vector CopyState 16) : Bool :=
  windowIds.all (fun i => !b[i].present || states[i] == .clean)

/-- Whether a SYNCED append is due (R170). Between commands a due append waits for a slot. -/
def syncedDue (s : State) : Bool :=
  s.copy.syncOwed && allClean s.table.active s.copy.states

/-- The SYNCED append is offered (R170). -/
def offerSynced (s : State) : State :=
  if syncedDue s && decide (0 < s.journal.freeSlots) then
    let s := append (.synced s.journal.generation) s
    raise .synced (s.setCopy { s.copy with syncOwed := false })
  else s

/-- The copy states a stream restart gives (R172). -/
def restartStates (b : Bank) : Vector CopyState 16 :=
  Vector.ofFn (fun i : Fin 16 => if b[i].present then .pending else .untracked)

/-- The generation a stream restart chooses (R21). -/
def restartGeneration (r : RestartReason) (s : State) : Gen :=
  match r with
  | .role => nextGeneration (maxGeneration s.journal.generation s.applyq.dataGeneration)
  | .promote => nextGeneration (maxGeneration s.journal.generation s.applyq.dataGeneration)
  | _ => nextGeneration s.journal.generation

/-- A stream restart acts on the session (R127). -/
def restartSession (s : State) : State :=
  match s.session.state with
  | .up => loseSession .resync s
  | .seek => enterSeek s
  | _ => s

/-- A stream restart (R20): discard, new generation, GENERATION and TABLE entries, Copy Map, session; then the SYNCED
append is offered (R172) and a stalled write's stall ends (R19, R74). -/
def restart (r : RestartReason) (s : State) : State :=
  let s := discardJournal s
  let g := restartGeneration r s
  let s := s.setJournal { s.journal with generation := g, lastRestart := r }
  let s := append (.table s.table.active false) (append (.generation g) s)
  let s := s.setCopy { s.copy with states := restartStates s.table.active, syncOwed := true }
  let s := restartSession s
  let s := count .streamRestarts (raise .streamRestart s)
  endStall (offerSynced s)

/-- The identity rule for one id (R171). -/
def identityState (old new : Window) (st : CopyState) : CopyState :=
  if new.present = false then .untracked
  else if old.present = true ∧ new.basePage = old.basePage ∧ new.pageCount = old.pageCount then st
  else .pending

/-- The identity rule (R171). -/
def identityRule (old new : Bank) (states : Vector CopyState 16) : Vector CopyState 16 :=
  Vector.ofFn (fun i : Fin 16 => identityState old[i] new[i] states[i])

/-- The completion of a pending commit, as one event (R35, R171). -/
def completeCommit (s : State) : State :=
  let states := identityRule s.table.active s.table.staged s.copy.states
  let complete := allClean s.table.staged states
  let s := append (.table s.table.staged complete) s
  let s := s.setCopy { s.copy with states := states, syncOwed := s.copy.syncOwed || !complete }
  let s := s.setTable { s.table with active := s.table.staged, commitPending := false }
  offerSynced (raise .commitDone s)

/-- A pending commit offers its TABLE append (R34). -/
def offerCommit (s : State) : State :=
  if s.table.commitPending && decide (0 < s.journal.freeSlots) then completeCommit s else s

/-! ## Apply queue -/

/-- The apply count (R147). -/
def ApplyUnit.count (q : ApplyUnit) : Nat :=
  q.queue.length + (if q.engine = .idle then 0 else 1)

/-- limit: expected plus the free apply slots (R148). -/
def ApplyUnit.limit (q : ApplyUnit) : Seq :=
  q.expected + BitVec.ofNat 12 (Config.applySlots - q.count)

/-- A LINK frame is pended (R142). -/
def pendLink (s : State) : State := s.setAcker { s.acker with linkPending := true }

/-- expected has changed: the NAK is armed and a pending frame's NAK mark is cleared (R141). -/
def rearmNak (s : State) : State := s.setAcker { s.acker with nakArmed := true, nakMark := false }

/-- The completion of an entry (R156). -/
def completeEntry (q : Seq) (s : State) : State :=
  pendLink (s.setApplyq { s.applyq with engine := .idle, lastApplied := some q })

/-! ## Role -/

/-- The leaving effects of SECONDARY: the pending LINK frame is dropped, the status interval timer stops (R178, R146). -/
def leaveSecondary (s : State) : State :=
  s.setAcker { linkPending := false, nakMark := false, nakArmed := true, statusTimer := none }

/-- The delivery state of a primary at a role change or a soft reset (R145). -/
def clearSender (s : State) : State :=
  s.setSender { peerLimit := 0#12, retryCount := 0, ackTimer := none }

/-- The reject-restart count becomes 0 (R128). -/
def clearRejectRestarts (s : State) : State :=
  s.setSession { s.session with rejectRestarts := 0 }

/-- The completion of a promotion (R182). -/
def completePromotion (s : State) : State :=
  let forced := !s.applyq.consistent
  let s := leaveSecondary s
  let s := s.setPart { role := .primary, promotionPending := false, forced := forced }
  let s := clearSender (clearRejectRestarts s)
  raise .promoteDone (restart .promote s)

/-- A pending promotion completes when the apply count is 0 (R182). -/
def endPromotion (s : State) : State :=
  if s.part.promotionPending = true ∧ s.applyq.count = 0 then completePromotion s else s

/-- The completion of an entry, and with the last entry of a drain that of the pending promotion, as one event (R156,
R182). -/
def finishEntry (q : Seq) (s : State) : State := endPromotion (completeEntry q s)

/-! ## Capture -/

/-- A host write is performed at memory; its access starts at the grant (R51, R69, log entry 7). -/
def performWrite (w : HostWrite) (s : State) : State :=
  let s := s.setMem (s.mem.writeWord w.addr.toNat { data := w.data, mask := w.mask })
  let s := s.setHost { s.host with state := .access (.write w) }
  s.setPort { s.port with holder := .hostWrite }

/-- The Hold Unit takes the hold of the newest entry (R81). -/
def takeHold (s : State) : State :=
  let s := s.setJournal { s.journal with entries := mapNewest (fun e => { e with held := true }) s.journal.entries }
  s.setHold { s.hold with holding := true, timer := some (100 * s.params.holdTimeout) }

/-- What follows a capture within the same grant: the write is performed, and for a SYNC window the entry is sealed and
held, or the write is reported degraded (R52, R68, R81). -/
def afterCapture (w : HostWrite) (m : Mode) (s : State) : State :=
  let s := performWrite w s
  match m with
  | .async => s
  | .sync =>
    let s := sealOpen s
    if s.session.state = .up then takeHold s else degrade s

/-- A stall (R71), with its timer or its restart (R72). -/
def stallWrite (w : HostWrite) (s : State) : State :=
  let s := s.setHost { s.host with state := .stalled w }
  let s := count .hostStalls (raise .hostStall s)
  if s.params.stallTimeout = 0 then represent (restart .stall s)
  else if s.params.stallTimeout = 255 then s.setCapture { s.capture with stallTimer := none }
  else s.setCapture { s.capture with stallTimer := some (100 * s.params.stallTimeout) }

/-- A new entry is needed: it is opened when the journal has a free slot, and the write stalls otherwise (R67, R71). -/
def openOrStall (w : HostWrite) (id : WindowId) (m : Mode) (s : State) : State :=
  if 0 < s.journal.freeSlots then afterCapture w m (openEntry (w.toRun id) s) else stallWrite w s

/-- The Capture Unit takes a captured write at its grant (R62). -/
def captureWrite (w : HostWrite) (id : WindowId) (m : Mode) (s : State) : State :=
  match s.journal.openRuns with
  | none => openOrStall w id m s
  | some rs =>
    match coalesce rs id w with
    | some rs' =>
      afterCapture w m (s.setJournal { s.journal with
        entries := mapNewest (fun e => { e with content := .write rs' }) s.journal.entries })
    | none => openOrStall w id m (sealOpen s)

/-! ## Classification and the memory arbiter -/

/-- The outcome of classification; a plain write says whether it falls in a SYNC window of a PRIMARY (R49, R51). -/
inductive Class where
  | plain (degraded : Bool)
  | captured (id : WindowId)
  | refused
  deriving DecidableEq, Repr

/-- Classification at grant (R48, R49, R50). -/
def classify (s : State) (w : HostWrite) : Class :=
  if w.mask = 0#4 then .plain false
  else
    match s.part.role, windowAt s.table.active w.addr.toNat with
    | .detached, _ => .plain false
    | _, none => .plain false
    | .secondary, some _ => .refused
    | .primary, some i =>
      match s.copy.states[i] with
      | .clean => .captured i
      | .copying cursor =>
        if w.addr.toNat < cursor then .captured i else .plain (s.table.active[i].mode == .sync)
      | .pending => .plain (s.table.active[i].mode == .sync)
      | .untracked => .plain (s.table.active[i].mode == .sync)

/-- The grant of a host write (R49 to R54). -/
def grantWrite (w : HostWrite) (s : State) : State :=
  match classify s w with
  | .plain true => degrade (performWrite w s)
  | .plain false => performWrite w s
  | .captured i => captureWrite w i s.table.active[i].mode s
  | .refused => finishHost .writeRefused (count .writesBlocked (raise .writeBlocked s))

/-- Whether the host port's request stands at the arbiter (R45). -/
def hostRequests (s : State) : Bool :=
  match s.host.state with
  | .request _ true _ => true
  | _ => false

/-- Whether an engine's request stands at the arbiter (R45). -/
def engineRequests (s : State) : Bool :=
  (match s.applyq.engine with | .waiting _ => true | _ => false) ||
    (match s.copy.engine with | .waiting _ _ => true | _ => false)

/-- The memory port is granted to the host (R46, R47); a write that a soft reset took out of STALLED is performed
plainly, without classification (R59). -/
def grantHost (s : State) : State :=
  match s.host.state with
  | .request (.read a) true _ =>
    (s.setHost { s.host with state := .access (.read a) }).setPort { holder := .hostRead, lastGrant := .host }
  | .request (.write w) true plainly =>
    let s := s.setPort { s.port with lastGrant := .host }
    if plainly then performWrite w s else grantWrite w s
  | _ => s

/-- The memory port is granted to the engine whose request stands (R46, R151, R165). -/
def grantEngine (s : State) : State :=
  match s.applyq.engine with
  | .waiting e => (s.setApplyq { s.applyq with engine := .writing e }).setPort { holder := .apply, lastGrant := .engine }
  | _ =>
    match s.copy.engine with
    | .waiting w c => (s.setCopy { s.copy with engine := .reading w c false }).setPort
        { holder := .burst, lastGrant := .engine }
    | _ => s

/-- One decision of the arbiter on an IDLE port: the one request that stands, or of two the one the last grant goes
against (R46). -/
def grantOnce (s : State) : State :=
  if s.port.holder = .idle then
    if hostRequests s then
      if engineRequests s && decide (s.port.lastGrant = .host) then grantEngine s else grantHost s
    else if engineRequests s then grantEngine s
    else s
  else s

/-- The arbiter grants again until the port is BUSY or nothing waits. Three decisions are enough: a host write that
stalls under STALL_TIMEOUT code 0 is re-presented once, and a host write that is stalled or refused makes no access and
leaves the port to an engine (R46, R47). -/
def arbitrate (s : State) : State := grantOnce (grantOnce (grantOnce s))

/-! ## Commands while a reset lasts -/

/-- While a power-on or pin reset lasts the part takes no command other than a reset and the end of the reset (R194). -/
def working (f : State → State) (s : State) : Host.Outcome State Fault Refusal :=
  .next (if s.inReset then s else f s)

end Sys2Proof.Machine
end

