-- ==== Sys2Proof/Machine/HostPath.lean ====
section
/-! DEFINITION. The commands of the Access Path: the host's transactions and the ends of host accesses at the memory
port (R42 to R54), and the re-presentation of a stalled write (R53, R73). -/

namespace Sys2Proof.Machine

/-- A transaction reaches an IDLE host port, which requests the memory port; another is not taken (R42, R43). -/
def presentTransaction (t : HostTxn) (s : State) : State :=
  match s.host.state with
  | .idle => arbitrate (s.setHost { state := .request t true false, completion := none })
  | _ => s

/-- HOST_TRANSACTION (R42). -/
def execHostTransaction (t : HostTxn) (s : State) : Host.Outcome State Fault Refusal :=
  working (presentTransaction t) s

/-- The memory port becomes IDLE (R47). -/
def freePort (s : State) : State := s.setPort { s.port with holder := .idle }

/-- The end of a host read: the data is returned, the host port goes IDLE, the arbiter grants again (R47). -/
def endHostRead (s : State) : State :=
  match s.port.holder, s.host.state with
  | .hostRead, .access (.read a) =>
    let d := s.mem.readWord a.toNat
    let s := s.setMem (s.mem.afterReads [a.toNat])
    arbitrate (finishHost (.readData d) (freePort s))
  | _, _ => s

/-- HOST_READ_COMPLETION (R47). -/
def execHostReadCompletion (s : State) : Host.Outcome State Fault Refusal :=
  working endHostRead s

/-- The end of a host write's access: HELD while its hold still runs, write done otherwise (R47, R82). -/
def endHostWrite (s : State) : State :=
  match s.port.holder, s.host.state with
  | .hostWrite, .access (.write w) =>
    let s := freePort s
    arbitrate (if s.hold.holding then s.setHost { s.host with state := .held w } else finishHost .writeDone s)
  | _, _ => s

/-- HOST_WRITE_COMPLETION (R47). -/
def execHostWriteCompletion (s : State) : Host.Outcome State Fault Refusal :=
  working endHostWrite s

/-- STALLED_WRITE_REPRESENTATION (R53, R73): a write whose stall has ended requests the memory port afresh. -/
def execStalledWriteRepresentation (s : State) : Host.Outcome State Fault Refusal :=
  working (fun s => arbitrate (represent s)) s

end Sys2Proof.Machine
end

