-- ==== Sys2Proof/Machine/Engines.lean ====
section
/-! DEFINITION. The commands of the Apply Engine (R149 to R156) and of the Copy Engine (R165 to R168), the appends that
wait for a slot (R35, R170), and the completion of a promotion (R182). -/

namespace Sys2Proof.Machine

/-! ## Apply Engine -/

/-- A rejected entry, up to its completion (R152). -/
def rejectEntry (s : State) : State :=
  count .entriesRejected (raise .entryRejected
    (s.setApplyq { s.applyq with consistent := false, reject := true }))

/-- A valid TABLE entry (R153). Absent records take the normal form a bank holds them in (R25). -/
def applyTable (records : Bank) (complete : Bool) (s : State) : State :=
  (s.setTable { s.table with active := bankNormal records }).setApplyq
    { s.applyq with consistent := s.applyq.consistent && complete }

/-- A GENERATION entry (R154). -/
def applyGeneration (g : Gen) (s : State) : State :=
  s.setApplyq { s.applyq with dataGeneration := g, consistent := false }

/-- A SYNCED entry (R155). -/
def applySynced (g : Gen) (s : State) : State :=
  if g = s.applyq.dataGeneration ∧ s.applyq.reject = false then
    raise .synced (s.setApplyq { s.applyq with consistent := true })
  else s

/-- The take of an entry that has left the queued list (R149). Completed within the take, the last entry of a drain
completes the promotion with it (R182). -/
def takeEntry (e : DataFrame) (s : State) : State :=
  if e.content.validFor s.table.active s.params.memPages = false then finishEntry e.seq (rejectEntry s)
  else
    match e.content with
    | .write _ => arbitrate (s.setApplyq { s.applyq with engine := .waiting e })
    | .copy _ => arbitrate (s.setApplyq { s.applyq with engine := .waiting e })
    | .table records complete => finishEntry e.seq (applyTable records complete s)
    | .generation g => finishEntry e.seq (applyGeneration g s)
    | .synced g => finishEntry e.seq (applySynced g s)

/-- The IDLE Apply Engine takes the oldest queued entry (R149). -/
def applyTake (s : State) : State :=
  match s.applyq.engine, s.applyq.queue with
  | .idle, e :: rest => takeEntry e (s.setApplyq { s.applyq with queue := rest })
  | _, _ => s

/-- APPLY_TAKE (R149). -/
def execApplyTake (s : State) : Host.Outcome State Fault Refusal :=
  working applyTake s

/-- The end of an apply operation: all its words are written, and the entry is completed before any later grant, the
last entry of a drain with the promotion (R47, R151, R156, R182). -/
def endApply (s : State) : State :=
  match s.port.holder, s.applyq.engine with
  | .apply, .writing e =>
    let s := s.setMem (s.mem.writeAll e.content.accesses)
    arbitrate (finishEntry e.seq (freePort s))
  | _, _ => s

/-- APPLY_OPERATION_COMPLETION (R156). -/
def execApplyOperationCompletion (s : State) : Host.Outcome State Fault Refusal :=
  working endApply s

/-! ## Copy Engine -/

/-- The lowest-id PENDING window becomes COPYING at its first word (R166). -/
def copyPick (s : State) : State :=
  if s.copy.engine = .idle ∧ copyMayRun s = true ∧ copyingWindow s = none then
    match firstId (fun i => s.copy.states[i] == .pending) with
    | some i => s.setCopy { s.copy with states := s.copy.states.set i (.copying s.table.active[i].firstWord) }
    | none => s
  else s

/-- COPY_PICK (R166). -/
def execCopyPick (s : State) : Host.Outcome State Fault Refusal :=
  working copyPick s

/-- The Copy Engine requests a burst at the cursor (R165). -/
def copyRequest (s : State) : State :=
  if s.copy.engine = .idle ∧ copyMayRun s = true then
    match copyingWindow s with
    | some (w, c) => arbitrate (s.setCopy { s.copy with engine := .waiting w c })
    | none => s
  else s

/-- COPY_BURST_REQUEST (R165). -/
def execCopyBurstRequest (s : State) : Host.Outcome State Fault Refusal :=
  working copyRequest s

/-- The addresses of a burst (R57). -/
def burstAddresses (cursor : Nat) : List Nat := (List.range Config.burstWords).map (fun k => cursor + k)

/-- The COPY run of a burst: the words read, each with byte mask 15 (R167). -/
def burstRun (w : WindowId) (cursor : Nat) (m : Memory) : Run :=
  { window := w.val, start := cursor
    words := (burstAddresses cursor).map (fun a => { data := m.readWord a, mask := 15#4 }) }

/-- The steps of a burst completion that is not void (R167). -/
def finishBurst (w : WindowId) (cursor : Nat) (r : Run) (s : State) : State :=
  let s := append (.copy r) s
  let next := cursor + Config.burstWords
  if next = s.table.active[w].endWord then
    offerSynced (s.setCopy { s.copy with states := s.copy.states.set w .clean })
  else s.setCopy { s.copy with states := s.copy.states.set w (.copying next) }

/-- The end of a copy burst at the memory port (R47, R167, R168). -/
def endBurst (w : WindowId) (cursor : Nat) (void : Bool) (s : State) : Host.Outcome State Fault Refusal :=
  let r := burstRun w cursor s.mem
  let s := s.setMem (s.mem.afterReads (burstAddresses cursor))
  let s := freePort (s.setCopy { s.copy with engine := .idle })
  if void = true ∨ s.copy.states[w] ≠ .copying cursor then .next (arbitrate s)
  else if s.journal.freeSlots = 0 then .fault .copyEntryWithoutSlot
  else .next (arbitrate (finishBurst w cursor r s))

/-- COPY_BURST_COMPLETION (R167, R168). -/
def execCopyBurstCompletion (s : State) : Host.Outcome State Fault Refusal :=
  if s.inReset then .next s
  else
    match s.port.holder, s.copy.engine with
    | .burst, .reading w cursor void => endBurst w cursor void s
    | _, _ => .next s

/-! ## Waiting appends and promotion -/

/-- COMMIT_COMPLETION (R35): a pending commit's TABLE append finds a free slot. -/
def execCommitCompletion (s : State) : Host.Outcome State Fault Refusal :=
  working offerCommit s

/-- SYNCED_APPEND (R170): a SYNCED append that is due finds a free slot. -/
def execSyncedAppend (s : State) : Host.Outcome State Fault Refusal :=
  working offerSynced s

/-- PROMOTION_COMPLETION (R182). The completion that empties the apply queue, or PROMOTE on an empty one, has already
completed the promotion within itself; the row stands for that event where it finds it still to do (log entry 11). -/
def execPromotionCompletion (s : State) : Host.Outcome State Fault Refusal :=
  working endPromotion s

end Sys2Proof.Machine
end

