-- ==== Sys2Proof/Machine/Management.lean ====
section
/-! DEFINITION. The Management Port: transactions, the twenty commands and UNKNOWN, their results and responses (R184 to
R193, R198), each with the rule of the chapter that owns it. -/

namespace Sys2Proof.Machine

/-! ## Results and responses (R186, R198) -/

/-- The result of a command. -/
inductive Result where
  | ok
  | accepted
  | busy
  | locked
  | badArg
  | badState
  | unknown
  deriving DecidableEq, Repr

/-- The result byte (R198). -/
def Result.byte : Result → Byte
  | .ok => 0x01#8
  | .accepted => 0x02#8
  | .busy => 0x03#8
  | .locked => 0x04#8
  | .badArg => 0x05#8
  | .badState => 0x06#8
  | .unknown => 0x07#8

/-- The answer to a command: the state after its own effect, the result, and the response data. -/
structure Answer where
  state : State
  result : Result
  data : List Byte

/-- An answer without response data. -/
def answer (r : Result) (s : State) : Answer := { state := s, result := r, data := [] }

/-- The response is formed and the port enters RESPONSE (R184, R185). -/
def respond (softReset : Bool) (a : Answer) : State :=
  a.state.setMgmt { a.state.mgmt with phase := .response (a.result.byte :: a.data) softReset }

/-- The bytes of a command so far: with the last argument byte complete the command takes effect as one event, before
that the port is in ARGUMENTS (R184, R185). -/
def feedCommand (cmd : MgmtCommand) (bytes : List Byte) (effect : List Byte → State → Answer) (s : State) : State :=
  if bytes.length < cmd.argCount then s.setMgmt { s.mgmt with phase := .arguments cmd bytes }
  else respond (cmd == .softReset) (effect (bytes.take cmd.argCount) s)

/-- The command byte of a command and the argument bytes that arrive with it, or further argument bytes of the command
in ARGUMENTS. Bytes in IDLE and in RESPONSE are ignored (R184, R185). -/
def takeCommand (cmd : MgmtCommand) (args : List Byte) (effect : List Byte → State → Answer) (s : State) : State :=
  match s.mgmt.phase with
  | .command => feedCommand cmd args effect s
  | .arguments c got => if c = cmd then feedCommand cmd (got ++ args) effect s else s
  | _ => s

/-- Byte k that SDO carries in RESPONSE, 0x00 after the response and in COMMAND and ARGUMENTS; none where SDO is high
impedance (R184, R186). -/
def sdoByte (s : State) (k : Nat) : Option Byte :=
  match s.mgmt.phase with
  | .idle => none
  | .response bytes _ => some (bytes.getD k 0x00#8)
  | _ => some 0x00#8

/-! ## Identification, status, events, counters -/

/-- READ_ID (R187). -/
def readIdEffect (_ : List Byte) (s : State) : Answer :=
  { state := s, result := .ok
    data := [Config.vendorCode] ++ be16Bytes Config.deviceCode ++ [Config.siliconRevision, Config.linkRevision] }

/-- The codes of the status record (R198). -/
def sessionByte : SessionState → Byte
  | .off => 0#8
  | .seek => 1#8
  | .up => 2#8
  | .closing => 3#8
  | .fault => 4#8

def lossByte : LossReason → Byte
  | .none => 0#8
  | .peerHello => 1#8
  | .peerBye => 2#8
  | .silence => 3#8
  | .retryLimit => 4#8
  | .resync => 5#8
  | .disabled => 6#8
  | .fault => 7#8

def faultCauseByte : FaultCause → Byte
  | .none => 0#8
  | .revision => 1#8
  | .role => 2#8
  | .rejectLimit => 3#8

def restartByte : RestartReason → Byte
  | .none => 0#8
  | .command => 1#8
  | .stall => 2#8
  | .join => 3#8
  | .peerReject => 4#8
  | .role => 5#8
  | .promote => 6#8

def holdOutcomeCode : HoldOutcome → Nat
  | .none => 0
  | .released => 1
  | .timeout => 2
  | .abandoned => 3

def applyEngineByte : ApplyEngine → Byte
  | .idle => 0#8
  | .waiting _ => 1#8
  | .writing _ => 2#8

/-- Whether the host write in progress is stalled (R61). -/
def isStalled (s : State) : Bool :=
  match s.host.state with
  | .stalled _ => true
  | _ => false

/-- A 24-bit field, most significant byte first. -/
def be24Bytes (n : Nat) : List Byte :=
  [BitVec.ofNat 8 (n / 65536), BitVec.ofNat 8 (n / 256), BitVec.ofNat 8 n]

/-- The cursor field of a response: 0 when no window is COPYING (R164, R198). -/
def cursorBytes (c : Option (WindowId × Nat)) : List Byte :=
  match c with
  | some (_, cursor) => be24Bytes cursor
  | none => be24Bytes 0

/-- The 38 bytes of the status record (R188, R198). R111 says that every item of the session state is shown in the
device status, but neither R188 nor R198 gives the HELLO timer a field; the model follows the layout and shows none
(log entry 28). -/
def statusRecord (s : State) : List Byte :=
  [roleByte s.part.role,
   flagBit s.part.promotionPending 0 ||| flagBit s.part.forced 1 ||| flagBit s.table.commitPending 2 |||
     flagBit s.journal.hasOpen 3 ||| flagBit s.journal.fresh 4 ||| flagBit s.session.seen 5 |||
     flagBit s.copy.syncOwed 6 ||| flagBit (syncedDue s) 7,
   sessionByte s.session.state, lossByte s.session.lastLoss, faultCauseByte s.session.faultCause,
   BitVec.ofNat 8 s.session.rejectRestarts, restartByte s.journal.lastRestart,
   BitVec.ofNat 8 s.journal.count, BitVec.ofNat 8 s.journal.freeSlots] ++
  seqBytes s.journal.oldest ++ seqBytes s.journal.sendPoint ++ seqBytes s.journal.nextSeq ++
  be16Bytes s.journal.generation ++ seqBytes s.sender.peerLimit ++
  [BitVec.ofNat 8 s.sender.retryCount,
   flagBit (isStalled s) 0 ||| flagBit s.hold.holding 1 ||| (BitVec.ofNat 8 (holdOutcomeCode s.hold.last) <<< 2),
   BitVec.ofNat 8 s.applyq.count, applyEngineByte s.applyq.engine] ++
  seqBytes s.applyq.expected ++ seqBytes s.applyq.limit ++
  (match s.applyq.lastApplied with | some q => seqBytes q | none => [0xFF#8, 0xFF#8]) ++
  be16Bytes s.applyq.streamGeneration ++ be16Bytes s.applyq.dataGeneration ++
  [flagBit s.applyq.consistent 0 ||| flagBit s.applyq.reject 1,
   (match copyingWindow s with | some (i, _) => BitVec.ofNat 8 i.val | none => 0xFF#8)] ++
  cursorBytes (copyingWindow s)

/-- READ_STATUS (R188). -/
def readStatusEffect (_ : List Byte) (s : State) : Answer :=
  { state := s, result := .ok, data := statusRecord s }

/-- READ_EVENTS (R191). -/
def readEventsEffect (_ : List Byte) (s : State) : Answer :=
  { state := s, result := .ok
    data := be16Bytes (s.events.flags.zeroExtend 16) ++ be16Bytes (s.events.repeats.zeroExtend 16) ++
      be16Bytes (s.events.enables.zeroExtend 16) }

/-- CLEAR_EVENTS (R191): bits 12 to 15 of the mask are ignored. -/
def clearEventsEffect (args : List Byte) (s : State) : Answer :=
  answer .ok (s.setEvents (s.events.clear ((argWord args 0).truncate 12)))

/-- SET_ENABLES (R192): bits 12 to 15 of the mask are ignored. -/
def setEnablesEffect (args : List Byte) (s : State) : Answer :=
  answer .ok (s.setEvents { s.events with enables := (argWord args 0).truncate 12 })

/-- READ_COUNTER (R193). -/
def readCounterEffect (args : List Byte) (s : State) : Answer :=
  if h : (argByte args 0).toNat < 15 then
    { state := s, result := .ok, data := be16Bytes (BitVec.ofNat 16 s.counters[(argByte args 0).toNat]) }
  else answer .badArg s

/-- CLEAR_COUNTERS (R193). -/
def clearCountersEffect (_ : List Byte) (s : State) : Answer :=
  answer .ok (s.setCounters (Vector.replicate 15 0))

/-! ## The window table -/

/-- The window record of WRITE_STAGED_WINDOW's arguments with its id; none when an argument lies outside its range, the
ranges being checked whether present is yes or no (R28). -/
def stagedArguments (args : List Byte) : Option (WindowId × Window) :=
  match idOfByte (argByte args 0), boolOfByte (argByte args 1), modeOfByte (argByte args 6) with
  | some id, some present, some mode =>
    let w : Window := { present := present, basePage := (argWord args 2).toNat, pageCount := (argWord args 4).toNat,
                        mode := mode }
    if w.inRange then some (id, w) else none
  | _, _, _ => none

/-- WRITE_STAGED_WINDOW (R28, R29). -/
def writeStagedWindowEffect (args : List Byte) (s : State) : Answer :=
  if s.table.commitPending then answer .locked s
  else
    match stagedArguments args with
    | none => answer .badArg s
    | some (id, w) =>
      let bank := s.table.staged.set id w.normal
      if w.present && !bankValid bank s.params.memPages then answer .badArg s
      else answer .ok (s.setTable { s.table with staged := bank })

/-- The bank a bank argument names: 0x00 active, 0x01 staged (R198). -/
def bankOfByte (b : Byte) (t : WindowTable) : Option Bank :=
  if b = 0x00#8 then some t.active else if b = 0x01#8 then some t.staged else none

/-- READ_WINDOW (R31). -/
def readWindowEffect (args : List Byte) (s : State) : Answer :=
  match bankOfByte (argByte args 0) s.table, idOfByte (argByte args 1) with
  | some bank, some id => { state := s, result := .ok, data := bank[id].bytes }
  | _, _ => answer .badArg s

/-- COPY_ACTIVE_TO_STAGED (R30). -/
def copyActiveToStagedEffect (_ : List Byte) (s : State) : Answer :=
  if s.table.commitPending then answer .locked s
  else answer .ok (s.setTable { s.table with staged := s.table.active })

/-- COMMIT_TABLE (R32 to R35): on a PRIMARY the commit is pending, and its TABLE append is offered at once. -/
def commitTableEffect (_ : List Byte) (s : State) : Answer :=
  if s.part.role = .secondary then answer .badState s
  else if s.table.commitPending then answer .busy s
  else if bankValid s.table.staged s.params.memPages = false then answer .badArg s
  else if s.part.role = .detached then
    answer .ok (raise .commitDone (s.setTable { s.table with active := s.table.staged }))
  else answer .accepted (offerCommit (s.setTable { s.table with commitPending := true }))

/-- READ_COPY_STATE (R164). -/
def readCopyStateEffect (args : List Byte) (s : State) : Answer :=
  match idOfByte (argByte args 0) with
  | none => answer .badArg s
  | some id =>
    { state := s, result := .ok
      data := match s.copy.states[id] with
        | .untracked => 0x00#8 :: be24Bytes 0
        | .pending => 0x01#8 :: be24Bytes 0
        | .copying cursor => 0x02#8 :: be24Bytes cursor
        | .clean => 0x03#8 :: be24Bytes 0 }

/-! ## Configuration (R189, R40) -/

/-- The value of a parameter by its id. -/
def Params.get? (p : Params) (id : Nat) : Option Nat :=
  match id with
  | 0 => some p.memPages
  | 1 => some p.sealAge
  | 2 => some p.ackTimeout
  | 3 => some p.retryLimit
  | 4 => some p.statusInterval
  | 5 => some p.silenceTimeout
  | 6 => some p.helloInterval
  | 7 => some p.holdTimeout
  | 8 => some p.stallTimeout
  | _ => none

/-- The parameters with one value replaced. -/
def Params.put (p : Params) (id v : Nat) : Params :=
  match id with
  | 0 => { p with memPages := v }
  | 1 => { p with sealAge := v }
  | 2 => { p with ackTimeout := v }
  | 3 => { p with retryLimit := v }
  | 4 => { p with statusInterval := v }
  | 5 => { p with silenceTimeout := v }
  | 6 => { p with helloInterval := v }
  | 7 => { p with holdTimeout := v }
  | 8 => { p with stallTimeout := v }
  | _ => p

/-- Whether a value lies in the range of a parameter. -/
def paramInRange (id v : Nat) : Bool :=
  match id with
  | 0 => decide (1 ≤ v ∧ v ≤ 16384)
  | 3 => decide (1 ≤ v ∧ v ≤ 15)
  | 8 => decide (v ≤ 255)
  | _ => decide (1 ≤ v ∧ v ≤ 255)

/-- Whether every present record of a bank ends within a number of pages (R40). -/
def bankFits (b : Bank) (pages : Nat) : Bool :=
  windowIds.all (fun i => !b[i].present || decide (b[i].basePage + b[i].pageCount ≤ pages))

/-- SET_CONFIG (R189). -/
def setConfigEffect (args : List Byte) (s : State) : Answer :=
  let id := (argByte args 0).toNat
  let v := (argWord args 1).toNat
  if 8 < id then answer .badArg s
  else if id = 0 ∧ s.part.role ≠ .detached then answer .locked s
  else if paramInRange id v = false then answer .badArg s
  else if id = 0 ∧ bankFits s.table.active v = false then answer .badArg s
  else answer .ok (s.setParams (s.params.put id v))

/-- READ_CONFIG (R189). -/
def readConfigEffect (args : List Byte) (s : State) : Answer :=
  match s.params.get? (argByte args 0).toNat with
  | some v => { state := s, result := .ok, data := be16Bytes (BitVec.ofNat 16 v) }
  | none => answer .badArg s

/-! ## Role (R177 to R182) -/

/-- The leaving effects of PRIMARY (R178). -/
def leavePrimary (s : State) : State :=
  let s := endStall (discardJournal s)
  let s := s.setCopy { states := Vector.replicate 16 .untracked, syncOwed := false, engine := .idle }
  let s := clearSender s
  s.setCapture { stallTimer := none, sealTimer := none }

/-- The leaving effects of a role. -/
def leaveRole (s : State) : State :=
  match s.part.role with
  | .detached => s
  | .primary => leavePrimary s
  | .secondary => leaveSecondary s

/-- The effects of arriving in SECONDARY (R179, R162, R146). -/
def arriveSecondary (s : State) : State :=
  let s := s.setApplyq { s.applyq with expected := 0#12, streamGeneration := 0#16, consistent := false,
                                       lastApplied := none, reject := false }
  s.setAcker { linkPending := false, nakMark := false, nakArmed := true, statusTimer := none }

/-- A role change: leaving effects, the new role, arriving effects (R178, R179). -/
def changeRole (r : Role) (s : State) : State :=
  let s := leaveRole s
  let s := s.setPart { s.part with role := r, forced := false }
  let s := clearRejectRestarts s
  match r with
  | .detached => s
  | .secondary => arriveSecondary s
  | .primary => restart .role (clearSender s)

/-- Whether the Copy Engine is READING. -/
def copyReading (s : State) : Bool :=
  match s.copy.engine with
  | .reading _ _ _ => true
  | _ => false

/-- SET_ROLE (R177). -/
def setRoleEffect (args : List Byte) (s : State) : Answer :=
  match roleOfByte (argByte args 0) with
  | none => answer .badArg s
  | some r =>
    if s.session.state ≠ .off then answer .badState s
    else if s.table.commitPending then answer .busy s
    else if s.part.promotionPending then answer .busy s
    else if s.part.role = .secondary ∧ r ≠ .secondary ∧ s.applyq.count ≠ 0 then answer .busy s
    else if s.part.role = .primary ∧ r ≠ .primary ∧ copyReading s = true then answer .busy s
    else if r = s.part.role then answer .ok (clearRejectRestarts s)
    else answer .ok (changeRole r s)

/-- PROMOTE (R180, R182): with an empty apply queue the promotion completes at once. -/
def promoteEffect (args : List Byte) (s : State) : Answer :=
  match boolOfByte (argByte args 0) with
  | none => answer .badArg s
  | some force =>
    if s.part.role ≠ .secondary then answer .badState s
    else if s.session.state ≠ .off then answer .badState s
    else if s.part.promotionPending then answer .busy s
    else if s.applyq.consistent = false ∧ force = false then answer .badState s
    else
      let s := s.setPart { s.part with promotionPending := true }
      answer .accepted (if s.applyq.count = 0 then completePromotion s else s)

/-! ## Session and stream (R112, R124, R174) -/

/-- LINK_ENABLE (R112): the receiver begins in HUNT (R99). -/
def linkEnableEffect (_ : List Byte) (s : State) : Answer :=
  if s.session.state ≠ .off then answer .badState s
  else if s.part.role = .detached then answer .badState s
  else if s.part.promotionPending then answer .busy s
  else answer .ok (enterSeek (s.setRx { s.rx with framing := .hunt }))

/-- LINK_DISABLE (R124). -/
def linkDisableEffect (_ : List Byte) (s : State) : Answer :=
  answer .ok
    (match s.session.state with
     | .off => s
     | .seek => enterClosing s
     | .up => enterClosing (leaveUp .disabled s)
     | .closing => s
     | .fault => enterOff s)

/-- START_RESYNC (R174). -/
def startResyncEffect (_ : List Byte) (s : State) : Answer :=
  if s.part.role = .primary then answer .ok (restart .command s) else answer .badState s

/-- SOFT_RESET forms its result; the reset is taken at the deselect (R185, R195). -/
def softResetEffect (_ : List Byte) (s : State) : Answer := answer .ok s

/-! ## The meanings -/

/-- MANAGEMENT_TRANSACTION (R184): a falling edge of CS_N. While a reset lasts CS_N falls and no transaction begins, nor
does one begin when the reset ends with CS_N low (R194). -/
def execManagementTransaction (s : State) : Host.Outcome State Fault Refusal :=
  .next (if s.mgmt.csLow then s
    else if s.inReset then s.setMgmt { s.mgmt with csLow := true }
    else s.setMgmt { csLow := true, phase := .command })

def execReadId (s : State) : Host.Outcome State Fault Refusal :=
  working (takeCommand .readId [] readIdEffect) s

def execReadStatus (s : State) : Host.Outcome State Fault Refusal :=
  working (takeCommand .readStatus [] readStatusEffect) s

def execReadEvents (s : State) : Host.Outcome State Fault Refusal :=
  working (takeCommand .readEvents [] readEventsEffect) s

def execClearEvents (args : List Byte) (s : State) : Host.Outcome State Fault Refusal :=
  working (takeCommand .clearEvents args clearEventsEffect) s

def execSetEnables (args : List Byte) (s : State) : Host.Outcome State Fault Refusal :=
  working (takeCommand .setEnables args setEnablesEffect) s

def execReadCounter (args : List Byte) (s : State) : Host.Outcome State Fault Refusal :=
  working (takeCommand .readCounter args readCounterEffect) s

def execClearCounters (s : State) : Host.Outcome State Fault Refusal :=
  working (takeCommand .clearCounters [] clearCountersEffect) s

def execWriteStagedWindow (args : List Byte) (s : State) : Host.Outcome State Fault Refusal :=
  working (takeCommand .writeStagedWindow args writeStagedWindowEffect) s

def execReadWindow (args : List Byte) (s : State) : Host.Outcome State Fault Refusal :=
  working (takeCommand .readWindow args readWindowEffect) s

def execCopyActiveToStaged (s : State) : Host.Outcome State Fault Refusal :=
  working (takeCommand .copyActiveToStaged [] copyActiveToStagedEffect) s

def execCommitTable (s : State) : Host.Outcome State Fault Refusal :=
  working (takeCommand .commitTable [] commitTableEffect) s

def execReadCopyState (args : List Byte) (s : State) : Host.Outcome State Fault Refusal :=
  working (takeCommand .readCopyState args readCopyStateEffect) s

def execSetConfig (args : List Byte) (s : State) : Host.Outcome State Fault Refusal :=
  working (takeCommand .setConfig args setConfigEffect) s

def execReadConfig (args : List Byte) (s : State) : Host.Outcome State Fault Refusal :=
  working (takeCommand .readConfig args readConfigEffect) s

def execSetRole (args : List Byte) (s : State) : Host.Outcome State Fault Refusal :=
  working (takeCommand .setRole args setRoleEffect) s

def execPromote (args : List Byte) (s : State) : Host.Outcome State Fault Refusal :=
  working (takeCommand .promote args promoteEffect) s

def execLinkEnable (s : State) : Host.Outcome State Fault Refusal :=
  working (takeCommand .linkEnable [] linkEnableEffect) s

def execLinkDisable (s : State) : Host.Outcome State Fault Refusal :=
  working (takeCommand .linkDisable [] linkDisableEffect) s

def execStartResync (s : State) : Host.Outcome State Fault Refusal :=
  working (takeCommand .startResync [] startResyncEffect) s

def execSoftReset (s : State) : Host.Outcome State Fault Refusal :=
  working (takeCommand .softReset [] softResetEffect) s

/-- An unknown command byte in COMMAND: the result UNKNOWN (R186). -/
def takeUnknown (s : State) : State :=
  match s.mgmt.phase with
  | .command => respond false (answer .unknown s)
  | _ => s

/-- UNKNOWN_COMMAND (R186); a byte that names a command spells no such event. -/
def execUnknownCommand (code : Byte) (s : State) : Host.Outcome State Fault Refusal :=
  if (commandOfByte code).isSome then .refused .illFormed else working takeUnknown s

end Sys2Proof.Machine
end

