-- ==== Sys2Proof/Machine/Receive.lean ====
section
/-! DEFINITION. The Link Receiver: characters and symbols (R99 to R105, R196), and the dispatch of good frames to the
Session Controller (R115 to R122) and the Delivery logic (R134, R135, R139 to R141). -/

namespace Sys2Proof.Machine

/-! ## Symbols -/

/-- Whether good frames are dispatched in a session state (R103). -/
def dispatching (st : SessionState) : Bool := st == .seek || st == .up

/-- The framing state changes. -/
def setFraming (f : Framing) (s : State) : State := s.setRx { s.rx with framing := f }

/-- The frame in the buffer is checked at END (R101): a discarded frame is counted once, a good frame goes to the
block that handles it (R103). -/
def judgeFrame (buffer : List Byte) (s : State) : State :=
  match checkFrame s.part.role buffer with
  | .short => count .rxFormatErrors s
  | .crcFailure => count .rxCrcErrors s
  | .unknownType => count .rxFormatErrors s
  | .wrongDirection => count .rxFormatErrors s
  | .malformed => count .rxFormatErrors s
  | .good f => if dispatching s.session.state then s.setRx { s.rx with good := s.rx.good ++ [f] } else s

/-- One symbol by the framing state (R100). -/
def frameSymbol (sym : Symbol) (s : State) : State :=
  match s.rx.framing, sym with
  | .hunt, .start => setFraming (.frame []) s
  | .hunt, _ => s
  | .frame _, .start => setFraming (.frame []) (count .rxFormatErrors s)
  | .frame buffer, .data b =>
    if buffer.length < Config.frameBytes then setFraming (.frame (buffer ++ [b])) s
    else setFraming .hunt (count .rxFormatErrors s)
  | .frame buffer, .stop => judgeFrame buffer (setFraming .hunt s)
  | .frame _, .abort => setFraming .hunt (count .rxAborts s)
  | .frame _, .fill => setFraming .hunt (count .rxFormatErrors s)
  | .frame _, .invalid => setFraming .hunt (count .rxFormatErrors s)

/-- The silence timer restarts when it is running (R105). -/
def restartSilence (s : State) : State :=
  if s.rx.silenceTimer.isSome then s.setRx { s.rx with silenceTimer := some (100 * s.params.silenceTimeout) } else s

/-- A symbol reaches the receiver: an unaligned receiver delivers none (R196), and in OFF the lane is ignored (R99). -/
def receiveSymbol (sym : Symbol) (s : State) : State :=
  if s.rx.aligned = false then s
  else if s.session.state = .off then s
  else frameSymbol sym (restartSilence s)

/-- SYMBOL_RECEIVED (R100): one character. Its start bit is not judged: R196 names three cases of an invalid symbol, and
a start bit that reads 1 is none of them (log entry 19). -/
def execSymbolReceived (c : Character) (s : State) : Host.Outcome State Fault Refusal :=
  working (receiveSymbol (decodeCharacter c)) s

/-- CHARACTER_ALIGNMENT (R196): the unaligned receiver aligns on what it has seen. -/
def execCharacterAlignment (cause : AlignCause) (s : State) : Host.Outcome State Fault Refusal :=
  working (fun s => if cause.aligns then s.setRx { s.rx with aligned := true } else s) s

/-! ## Dispatch of good frames -/

/-- A good frame is taken by the block that handles it, the frames of the lane in their order, while the session is SEEK
or UP (R103). With no received frame on its way the command itself stands for the frame's arrival, which an unaligned
receiver lets nothing of through (R196; log entry 6). -/
def dispatch (f : Frame) (handle : State → State) (s : State) : State :=
  match s.rx.good with
  | [] => if s.rx.aligned && dispatching s.session.state then handle s else s
  | g :: rest =>
    if g = f then
      let s := s.setRx { s.rx with good := rest }
      if dispatching s.session.state then handle s else s
    else s

/-- The whole of a frame-level command; a frame that fails check 5 is no good frame (R101). -/
def dispatchGood (f : Frame) (handle : State → State) (s : State) : Host.Outcome State Fault Refusal :=
  if f.wellFormed then working (dispatch f handle) s else .refused .illFormed

/-! ## HELLO and BYE -/

/-- The acceptance test without adoption: R116 at a primary, the first case of R117 at a secondary. -/
def resumable (f : HelloFrame) (s : State) : Bool :=
  match s.part.role with
  | .primary => f.generation == s.journal.generation && seqLiesIn f.next s.journal.oldest s.journal.nextSeq
  | .secondary => f.generation == s.applyq.streamGeneration && seqLiesIn s.applyq.expected f.oldest f.next
  | .detached => false

/-- Adoption (R117, R159): queued entries are discarded, the working entry is kept. -/
def adopt (f : HelloFrame) (s : State) : State :=
  rearmNak (s.setApplyq { s.applyq with queue := [], expected := f.oldest, streamGeneration := f.generation,
                                        reject := false })

/-- The seq the send point is placed at for a peer that expects e: the OPEN entry's when e lies beyond it (R18). -/
def placementPoint (e : Seq) (j : Journal) : Seq :=
  match j.entries.getLast? with
  | some x => if x.state = .opened ∧ seqPrecedes x.seq e = true then x.seq else e
  | none => e

/-- Placement of the send point at e (R18). -/
def place (e : Seq) (s : State) : State :=
  let s := release e s
  let p := placementPoint e s.journal
  s.setJournal { s.journal with entries := s.journal.entries.map (Entry.rewind p), sendPoint := p }

/-- The effects of entry to UP at a primary (R119). -/
def enterUpPrimary (f : HelloFrame) (s : State) : State :=
  let s := place f.next s
  s.setSender { peerLimit := f.limit, retryCount := 0, ackTimer := none }

/-- The effects of entry to UP at a secondary (R119, R143). -/
def enterUpSecondary (s : State) : State :=
  let s := pendLink s
  s.setAcker { s.acker with statusTimer := some (5 * s.params.statusInterval) }

/-- Entry to UP (R119). -/
def enterUp (f : HelloFrame) (s : State) : State :=
  let s := s.setSession { s.session with state := .up, helloTimer := none }
  let s := match s.part.role with
    | .primary => enterUpPrimary f s
    | .secondary => enterUpSecondary s
    | .detached => s
  raise .linkUp (s.setRx { s.rx with silenceTimer := some (100 * s.params.silenceTimeout) })

/-- An accepted HELLO in SEEK (R118). -/
def acceptHello (f : HelloFrame) (s : State) : State :=
  let s := if s.session.seen then s
    else startHelloTimer (askHello (s.setSession { s.session with seen := true }))
  if f.seen then enterUp f s else s

/-- A HELLO judged in SEEK (R116, R117, R118). -/
def judgeHello (f : HelloFrame) (s : State) : State :=
  if resumable f s then acceptHello f s
  else
    match s.part.role with
    | .primary => if s.journal.fresh then s else restart .join s
    | .secondary => if f.fresh then acceptHello f (adopt f s) else s
    | .detached => s

/-- An accepted HELLO with seen 1 in UP: answered when the HELLO timer is stopped (R120). -/
def answerHello (s : State) : State :=
  if s.session.helloTimer.isSome then s else startHelloTimer (askHello s)

/-- A good HELLO in SEEK or UP (R115, R120). -/
def receiveHello (f : HelloFrame) (s : State) : State :=
  if f.revision ≠ Config.linkRevision then enterFault .revision s
  else if f.role = s.part.role then enterFault .role s
  else if s.session.state = .up then
    if f.seen = true ∧ resumable f s = true then answerHello s
    else judgeHello f (loseSession .peerHello s)
  else judgeHello f s

/-- HELLO_RECEIVED (R115). -/
def execHelloReceived (f : HelloFrame) (s : State) : Host.Outcome State Fault Refusal :=
  dispatchGood (.hello f) (receiveHello f) s

/-- A good BYE: UP goes to SEEK with loss reason PEER_BYE, SEEK stays; its reason changes nothing (R122). -/
def receiveBye (s : State) : State :=
  if s.session.state = .up then loseSession .peerBye s else s

/-- BYE_RECEIVED (R122). -/
def execByeReceived (r : ByeReason) (s : State) : Host.Outcome State Fault Refusal :=
  dispatchGood (.bye r) receiveBye s

/-! ## LINK frames at a primary, DATA frames at a secondary -/

/-- A LINK frame with REJECT in UP (R126). -/
def peerReject (s : State) : State :=
  if s.session.rejectRestarts < Config.rejectLimit then
    restart .peerReject (s.setSession { s.session with rejectRestarts := s.session.rejectRestarts + 1 })
  else enterFault .rejectLimit s

/-- Whether a LINK frame is in range (R134). -/
def linkInRange (f : LinkFrame) (j : Journal) : Bool :=
  seqLiesIn f.ack j.oldest j.sendPoint && decide ((f.limit - f.ack).toNat ≤ 32)

/-- A LINK frame that passes R134: limit, release, rewind on NAK (R135). -/
def takeLink (f : LinkFrame) (s : State) : State :=
  let s := s.setSender { s.sender with peerLimit := f.limit }
  let s := release f.ack s
  if f.nak then count .naksReceived (requestRewind f.ack s) else s

/-- A good LINK frame: no effect but at a primary in UP (R122, R134). -/
def receiveLink (f : LinkFrame) (s : State) : State :=
  if s.part.role = .primary ∧ s.session.state = .up then
    if f.reject then peerReject s
    else if linkInRange f s.journal then takeLink f s
    else count .rxFormatErrors s
  else s

/-- LINK_RECEIVED (R134). -/
def execLinkReceived (f : LinkFrame) (s : State) : Host.Outcome State Fault Refusal :=
  dispatchGood (.link f) (receiveLink f) s

/-- Acceptance (R140). -/
def acceptData (f : DataFrame) (s : State) : State :=
  pendLink (rearmNak (s.setApplyq { s.applyq with queue := s.applyq.queue ++ [f],
                                                  expected := s.applyq.expected + 1#12 }))

/-- A gap asks for a NAK when the NAK is armed (R141). -/
def askNak (s : State) : State :=
  if s.acker.nakArmed then
    count .naksSent (s.setAcker { s.acker with nakArmed := false, nakMark := true, linkPending := true })
  else s

/-- A good DATA frame: no effect but at a secondary in UP (R122, R139). -/
def receiveData (f : DataFrame) (s : State) : State :=
  if s.part.role = .secondary ∧ s.session.state = .up then
    if f.seq = s.applyq.expected then
      if s.applyq.count < Config.applySlots then acceptData f s else count .rxFormatErrors s
    else if seqPrecedes f.seq s.applyq.expected then pendLink (count .rxDuplicates s)
    else askNak (count .rxGaps s)
  else s

/-- DATA_RECEIVED (R139). -/
def execDataReceived (f : DataFrame) (s : State) : Host.Outcome State Fault Refusal :=
  dispatchGood (.data f) (receiveData f) s

end Sys2Proof.Machine
end

