-- ==== Sys2Proof/Machine/Resets.lean ====
section
/-! DEFINITION. The deselect with the soft reset it may take (R185, R195), the power-on and pin resets, and the end of
a reset (R194), each acting on every block as that block's chapter gives. -/

namespace Sys2Proof.Machine

/-- A soft reset and the host port: a write in STALLED enters REQUEST, to be performed plainly (R59, R76). -/
def softResetHost (s : State) : State :=
  match s.host.state with
  | .stalled w => s.setHost { s.host with state := .request (.write w) true true }
  | _ => s

/-- A soft reset and the Copy Engine: a request is withdrawn, a burst in progress becomes void (R168, R175). -/
def softResetCopy (s : State) : State :=
  match s.copy.engine with
  | .idle => s
  | .waiting _ _ => s.setCopy { s.copy with engine := .idle }
  | .reading w c _ => s.setCopy { s.copy with engine := .reading w c true }

/-- The soft reset (R195), with R23, R38, R59, R76, R79, R86, R110, R130, R145, R146, R161, R175 and R181. -/
def softReset (s : State) : State :=
  let s := softResetHost (discardJournal s)
  let s := s.setCapture { stallTimer := none, sealTimer := none }
  let s := s.setTable { s.table with commitPending := false }
  let s := s.setPart { s.part with promotionPending := false }
  let s := enterOff s
  let s := s.setSession { s.session with seen := false, rejectRestarts := 0 }
  let s := s.setRx { s.rx with silenceTimer := none }
  let s := clearSender s
  let s := s.setAcker { linkPending := false, nakMark := false, nakArmed := true, statusTimer := none }
  let s := s.setApplyq { s.applyq with queue := [], expected := 0#12, lastApplied := none, streamGeneration := 0#16,
                                       consistent := false, reject := false }
  let s := offerSynced (softResetCopy s)
  let s := s.setEvents s.events.clearAll
  arbitrate s

/-- The deselect outside a reset: a transaction that selected SOFT_RESET takes it, and the port returns to IDLE. -/
def deselect (s : State) : State :=
  let s' := s.setMgmt { csLow := false, phase := .idle }
  match s.mgmt.phase with
  | .response _ true => softReset s'
  | _ => s'

/-- DESELECT (R185): a rising edge of CS_N. -/
def execDeselect (s : State) : Host.Outcome State Fault Refusal :=
  .next (if s.mgmt.csLow = false then s
    else if s.inReset then s.setMgmt { s.mgmt with csLow := false }
    else deselect s)

/-- The memory a power-on or pin reset leaves: of an apply operation in progress the words whose accesses had ended or
were in progress are written, the first access having started at the grant (R58). -/
def memoryAtReset (wordsEnded : Nat) (s : State) : Memory :=
  match s.port.holder, s.applyq.engine with
  | .apply, .writing e => s.mem.writeAll (e.content.accesses.take (max 1 wordsEnded))
  | _, _ => s.mem

/-- The start of a power-on or pin reset (R194): every block takes its reset values, the memory behind the device is
kept, and the part is in reset. The count of aborts goes on, so that no free value comes twice (log entry 30). -/
def powerReset (wordsEnded : Nat) (s : State) : State :=
  { State.reset with
    inReset := true
    mgmt := { csLow := s.mgmt.csLow, phase := .idle }
    mem := memoryAtReset wordsEnded s
    tx := { State.reset.tx with aborts := s.tx.aborts }
    pending := s.pending }

/-- POWER_ON_RESET (R194). -/
def execPowerOnReset (wordsEnded : Nat) (s : State) : Host.Outcome State Fault Refusal :=
  .next (powerReset wordsEnded s)

/-- PIN_RESET (R194): a low pulse shorter than 1 µs is ignored. -/
def execPinReset (lowNs wordsEnded : Nat) (s : State) : Host.Outcome State Fault Refusal :=
  .next (if lowNs < 1000 then s else powerReset wordsEnded s)

/-- RESET_END (R194): the device begins work. -/
def execResetEnd (s : State) : Host.Outcome State Fault Refusal :=
  .next (s.setInReset false)

end Sys2Proof.Machine
end

