-- ==== Sys2Proof/Machine/Timers.lean ====
section
/-! DEFINITION. The expiries of the timers. The command's arrival says that the time has run out; an expiry of a timer
that is stopped does not occur and changes nothing (log entry 4). -/

namespace Sys2Proof.Machine

/-- The OPEN entry is sealed (R14). -/
def sealAge (s : State) : State :=
  if s.capture.sealTimer.isSome then sealOpen s else s

/-- SEAL_AGE_EXPIRY (R14). -/
def execSealAgeExpiry (s : State) : Host.Outcome State Fault Refusal :=
  working sealAge s

/-- A stream restart with reason STALL, which ends the stall (R74). -/
def stallExpiry (s : State) : State :=
  if s.capture.stallTimer.isSome then restart .stall s else s

/-- STALL_TIMER_EXPIRY (R74). -/
def execStallTimerExpiry (s : State) : Host.Outcome State Fault Refusal :=
  working stallExpiry s

/-- The hold ends TIMEOUT; the mark is cleared and the entry stays (R84). -/
def holdExpiry (s : State) : State :=
  if s.hold.timer.isSome then
    let s := s.setJournal { s.journal with entries := s.journal.entries.map (fun e => { e with held := false }) }
    count .syncLate (raise .syncLate (endHold .timeout s))
  else s

/-- HOLD_TIMER_EXPIRY (R84). -/
def execHoldTimerExpiry (s : State) : Host.Outcome State Fault Refusal :=
  working holdExpiry s

/-- The retry count rises; the send point rewinds to oldest, or the session is lost (R137). -/
def ackExpiry (s : State) : State :=
  if s.sender.ackTimer.isSome then
    let s := s.setSender { s.sender with retryCount := s.sender.retryCount + 1 }
    if s.sender.retryCount < s.params.retryLimit then
      let s := requestRewind s.journal.oldest s
      let s := s.setSender { s.sender with ackTimer := some (10 * s.params.ackTimeout) }
      count .retransmitTimeouts s
    else loseSession .retryLimit s
  else s

/-- ACK_TIMER_EXPIRY (R137). -/
def execAckTimerExpiry (s : State) : Host.Outcome State Fault Refusal :=
  working ackExpiry s

/-- The session goes from UP to SEEK with loss reason SILENCE (R105). -/
def silenceExpiry (s : State) : State :=
  if s.rx.silenceTimer.isSome then loseSession .silence s else s

/-- SILENCE_TIMER_EXPIRY (R105). -/
def execSilenceTimerExpiry (s : State) : Host.Outcome State Fault Refusal :=
  working silenceExpiry s

/-- In SEEK a HELLO is asked for and the timer restarts; in UP the timer stops (R114). -/
def helloExpiry (s : State) : State :=
  if s.session.helloTimer.isSome then
    match s.session.state with
    | .seek => startHelloTimer (askHello s)
    | .up => s.setSession { s.session with helloTimer := none }
    | _ => s
  else s

/-- HELLO_TIMER_EXPIRY (R114). -/
def execHelloTimerExpiry (s : State) : Host.Outcome State Fault Refusal :=
  working helloExpiry s

/-- A LINK frame is pended and the timer restarts (R143). -/
def statusExpiry (s : State) : State :=
  if s.acker.statusTimer.isSome then
    let s := pendLink s
    s.setAcker { s.acker with statusTimer := some (5 * s.params.statusInterval) }
  else s

/-- STATUS_INTERVAL_EXPIRY (R143). -/
def execStatusIntervalExpiry (s : State) : Host.Outcome State Fault Refusal :=
  working statusExpiry s

end Sys2Proof.Machine
end

