-- ==== Sys2Proof/Machine/Transmit.lean ====
section
/-! DEFINITION. The Link Transmitter: the frames that are due and their order (R106, R107), the START of a frame with
the fields it takes (R97, R98, R108), the ENDs of the frames, and the levels of the output pins. -/

namespace Sys2Proof.Machine

/-! ## Frames due -/

/-- The entry a DATA frame is due for: READY at the send point, its seq preceding peer_limit, on a PRIMARY in UP
(R106, R133). -/
def dataDue (s : State) : Option Entry :=
  if s.part.role = .primary ∧ s.session.state = .up ∧ seqPrecedes s.journal.sendPoint s.sender.peerLimit = true then
    match s.journal.entryAt s.journal.sendPoint with
    | some e => if e.state = .ready then some e else none
    | none => none
  else none

/-- Whether a HELLO is due (R106). -/
def helloIsDue (s : State) : Bool :=
  s.tx.helloDue && (s.session.state == .seek || s.session.state == .up)

/-- Whether a LINK frame is due (R106). -/
def linkIsDue (s : State) : Bool :=
  s.acker.linkPending && s.session.state == .up && s.part.role == .secondary

/-- The HELLO a part sends (R98). -/
def helloFrame (s : State) : HelloFrame :=
  match s.part.role with
  | .primary =>
    { revision := Config.linkRevision, role := .primary, seen := s.session.seen, fresh := s.journal.fresh,
      consistent := false, reject := false, generation := s.journal.generation, oldest := s.journal.oldest,
      next := s.journal.nextSeq, limit := 0#12 }
  | r =>
    { revision := Config.linkRevision, role := r, seen := s.session.seen, fresh := false,
      consistent := s.applyq.consistent, reject := s.applyq.reject, generation := s.applyq.streamGeneration,
      oldest := s.applyq.expected, next := s.applyq.expected, limit := s.applyq.limit }

/-- The LINK frame a secondary sends (R98). -/
def linkFrame (s : State) : LinkFrame :=
  { ack := s.applyq.expected, limit := s.applyq.limit, nak := s.acker.nakMark, reject := s.applyq.reject }

/-- The first due frame in the order BYE, HELLO, LINK, DATA, with its fields as they stand (R107, R108). -/
def nextFrame (s : State) : Option (TxKind × Frame) :=
  match s.tx.byeDue with
  | some r => some (.bye r, .bye r)
  | none =>
    if helloIsDue s then some (.hello, .hello (helloFrame s))
    else if linkIsDue s then some (.link, .link (linkFrame s))
    else
      match dataDue s with
      | some e => some (.data e.seq, .data { seq := e.seq, content := e.content })
      | none => none

/-- A frame that starts is no longer due; with a LINK frame its NAK mark is cleared (R106, R142). -/
def clearDue (k : TxKind) (s : State) : State :=
  match k with
  | .bye _ => s.setTx { s.tx with byeDue := none }
  | .hello => s.setTx { s.tx with helloDue := false }
  | .link => s.setAcker { s.acker with linkPending := false, nakMark := false }
  | .data _ => s

/-- The IDLE transmitter starts the first due frame (R107, R108). -/
def startFrame (s : State) : State :=
  match s.tx.sending, nextFrame s with
  | none, some (k, f) =>
    let s := clearDue k s
    s.setTx { s.tx with sending := some { kind := k, bytes := f.bytes } }
  | _, _ => s

/-- FRAME_START (R107, R108). -/
def execFrameStart (s : State) : Host.Outcome State Fault Refusal :=
  working startFrame s

/-! ## Ends of frames -/

/-- The END of the frame in transmission is sent, and the transmitter returns to IDLE (R108). -/
def endFrame (s : State) : State :=
  s.setTx { s.tx with sending := none, lastEnding := .ended }

/-- The entry of a DATA frame becomes INFLIGHT at its END (R8). -/
def Entry.sent (q : Seq) (e : Entry) : Entry :=
  if e.seq = q ∧ e.state = .ready then { e with state := .inflight } else e

/-- The END of a DATA frame: the entry becomes INFLIGHT, the send point advances, the ack timer starts when it is
stopped, and a held rewind is taken (R8, R17, R136). -/
def endDataFrame (s : State) : State :=
  match s.tx.sending with
  | some { kind := .data q, .. } =>
    let s := endFrame s
    let s := s.setJournal { s.journal with entries := s.journal.entries.map (Entry.sent q),
                                           sendPoint := s.journal.sendPoint + 1#12 }
    let s := if s.sender.ackTimer.isSome then s
      else s.setSender { s.sender with ackTimer := some (10 * s.params.ackTimeout) }
    takeHeldRewind s
  | _ => s

/-- DATA_FRAME_END (R8). -/
def execDataFrameEnd (s : State) : Host.Outcome State Fault Refusal :=
  working endDataFrame s

/-- The END of a HELLO or LINK frame (R108). -/
def endControlFrame (s : State) : State :=
  match s.tx.sending with
  | some { kind := .hello, .. } => endFrame s
  | some { kind := .link, .. } => endFrame s
  | _ => s

/-- FRAME_END (R108). -/
def execFrameEnd (s : State) : Host.Outcome State Fault Refusal :=
  working endControlFrame s

/-- The END of BYE(DISABLED): the session leaves CLOSING for OFF (R123). -/
def endByeDisabled (s : State) : State :=
  match s.tx.sending with
  | some { kind := .bye .disabled, .. } => enterOff (endFrame s)
  | _ => s

/-- BYE_DISABLED_END (R123). -/
def execByeDisabledEnd (s : State) : Host.Outcome State Fault Refusal :=
  working endByeDisabled s

/-- The END of BYE(FAULT): the session stays FAULT and the transmitter sends FILL (R125). -/
def endByeFault (s : State) : State :=
  match s.tx.sending with
  | some { kind := .bye .fault, .. } => endFrame s
  | _ => s

/-- BYE_FAULT_END (R125). -/
def execByeFaultEnd (s : State) : Host.Outcome State Fault Refusal :=
  working endByeFault s

/-! ## Output pins -/

/-- What the transmit lane carries (R93): no symbols while a reset lasts, FILL, the symbols of a frame, which END closes
if nothing aborts it, or the symbols of a frame closed by ABORT, which FILL then follows. -/
inductive TransmitLane where
  | noSymbols
  | fill
  | frame (symbols : List Symbol)
  | abortedFrame (symbols : List Symbol)
  deriving DecidableEq, Repr

/-- The transmit lane of a state (R93). How much of an aborted frame it carried is a free value, at most all of its data
bytes (log entry 30). -/
def transmitLane (s : State) : TransmitLane :=
  if s.inReset then .noSymbols
  else
    match s.tx.sending with
    | some f => .frame (frameSymbols f.bytes)
    | none =>
      match s.tx.lastEnding with
      | .aborted bytes =>
        .abortedFrame (abortedSymbols bytes (min bytes.length (Config.bytesBeforeAbort s.tx.aborts)))
      | _ => .fill

/-- Whether the host bus is held in its wait state (R42). -/
def hostWaits (s : State) : Bool := s.host.state != .idle

/-- WERR: active with the completion of a refused write (R42, R54). -/
def werrActive (s : State) : Bool := s.host.completion == some .writeRefused

end Sys2Proof.Machine
end

