-- ==== Sys2Proof/Machine/Dispatch.lean ====
section
/-! DEFINITION. The meaning of every command: one arm per constructor of `Instr`, in the table's order. -/

namespace Sys2Proof.Machine

def exec (i : Instr) (s : State) : Host.Outcome State Fault Refusal :=
  match i with
  | .managementTransaction => Sys2Proof.Machine.execManagementTransaction s
  | .deselect => Sys2Proof.Machine.execDeselect s
  | .readId => Sys2Proof.Machine.execReadId s
  | .readStatus => Sys2Proof.Machine.execReadStatus s
  | .readEvents => Sys2Proof.Machine.execReadEvents s
  | .clearEvents args => Sys2Proof.Machine.execClearEvents args s
  | .setEnables args => Sys2Proof.Machine.execSetEnables args s
  | .readCounter args => Sys2Proof.Machine.execReadCounter args s
  | .clearCounters => Sys2Proof.Machine.execClearCounters s
  | .writeStagedWindow args => Sys2Proof.Machine.execWriteStagedWindow args s
  | .readWindow args => Sys2Proof.Machine.execReadWindow args s
  | .copyActiveToStaged => Sys2Proof.Machine.execCopyActiveToStaged s
  | .commitTable => Sys2Proof.Machine.execCommitTable s
  | .readCopyState args => Sys2Proof.Machine.execReadCopyState args s
  | .setConfig args => Sys2Proof.Machine.execSetConfig args s
  | .readConfig args => Sys2Proof.Machine.execReadConfig args s
  | .setRole args => Sys2Proof.Machine.execSetRole args s
  | .promote args => Sys2Proof.Machine.execPromote args s
  | .linkEnable => Sys2Proof.Machine.execLinkEnable s
  | .linkDisable => Sys2Proof.Machine.execLinkDisable s
  | .startResync => Sys2Proof.Machine.execStartResync s
  | .softReset => Sys2Proof.Machine.execSoftReset s
  | .unknownCommand code => Sys2Proof.Machine.execUnknownCommand code s
  | .powerOnReset wordsEnded => Sys2Proof.Machine.execPowerOnReset wordsEnded s
  | .pinReset lowNs wordsEnded => Sys2Proof.Machine.execPinReset lowNs wordsEnded s
  | .resetEnd => Sys2Proof.Machine.execResetEnd s
  | .hostTransaction t => Sys2Proof.Machine.execHostTransaction t s
  | .hostReadCompletion => Sys2Proof.Machine.execHostReadCompletion s
  | .hostWriteCompletion => Sys2Proof.Machine.execHostWriteCompletion s
  | .applyOperationCompletion => Sys2Proof.Machine.execApplyOperationCompletion s
  | .copyBurstCompletion => Sys2Proof.Machine.execCopyBurstCompletion s
  | .applyTake => Sys2Proof.Machine.execApplyTake s
  | .copyPick => Sys2Proof.Machine.execCopyPick s
  | .copyBurstRequest => Sys2Proof.Machine.execCopyBurstRequest s
  | .stalledWriteRepresentation => Sys2Proof.Machine.execStalledWriteRepresentation s
  | .commitCompletion => Sys2Proof.Machine.execCommitCompletion s
  | .syncedAppend => Sys2Proof.Machine.execSyncedAppend s
  | .promotionCompletion => Sys2Proof.Machine.execPromotionCompletion s
  | .sealAgeExpiry => Sys2Proof.Machine.execSealAgeExpiry s
  | .stallTimerExpiry => Sys2Proof.Machine.execStallTimerExpiry s
  | .holdTimerExpiry => Sys2Proof.Machine.execHoldTimerExpiry s
  | .ackTimerExpiry => Sys2Proof.Machine.execAckTimerExpiry s
  | .silenceTimerExpiry => Sys2Proof.Machine.execSilenceTimerExpiry s
  | .helloTimerExpiry => Sys2Proof.Machine.execHelloTimerExpiry s
  | .statusIntervalExpiry => Sys2Proof.Machine.execStatusIntervalExpiry s
  | .symbolReceived c => Sys2Proof.Machine.execSymbolReceived c s
  | .helloReceived f => Sys2Proof.Machine.execHelloReceived f s
  | .byeReceived r => Sys2Proof.Machine.execByeReceived r s
  | .linkReceived f => Sys2Proof.Machine.execLinkReceived f s
  | .dataReceived f => Sys2Proof.Machine.execDataReceived f s
  | .frameStart => Sys2Proof.Machine.execFrameStart s
  | .dataFrameEnd => Sys2Proof.Machine.execDataFrameEnd s
  | .frameEnd => Sys2Proof.Machine.execFrameEnd s
  | .byeDisabledEnd => Sys2Proof.Machine.execByeDisabledEnd s
  | .byeFaultEnd => Sys2Proof.Machine.execByeFaultEnd s
  | .characterAlignment cause => Sys2Proof.Machine.execCharacterAlignment cause s

end Sys2Proof.Machine
end

