-- ==== Sys2Proof/Safety.lean ====
section
/-! DEFINITION. What a sound state of the part is, rule by rule: the conditions the manual states over all of a part's
life. Each holds at `State.reset` and each is kept by every step; the statements say so. Before them, the words the
statements about single commands are written in. -/

namespace Sys2Proof.Machine

/-! ## Words of the statements -/

/-- Outside a reset, with a management transaction in COMMAND (R184). -/
abbrev Commanded (s : State) : Prop := s.inReset = false ∧ s.mgmt.phase = .command

/-- The state with a response formed: the result byte, then the data (R184, R185). -/
def responded (r : Result) (data : List Byte) (s : State) : State :=
  s.setMgmt { s.mgmt with phase := .response (r.byte :: data) false }

/-- The commands that take argument bytes, with their numbers (12.2). -/
def argumentCommands : List ((List Byte → Instr) × Nat) :=
  [(.clearEvents, 2), (.setEnables, 2), (.readCounter, 1), (.writeStagedWindow, 7), (.readWindow, 2),
   (.readCopyState, 1), (.setConfig, 3), (.readConfig, 1), (.setRole, 1), (.promote, 1)]

/-- A number whose bytes, the lowest first, are those given: the word that spells a transaction's bytes (R198). -/
def wordOf : List Byte → Nat
  | [] => 0
  | b :: rest => b.toNat + 256 * wordOf rest

/-- Outside a reset, the receiver aligned and no other received frame on its way: a frame-level command stands for the
arrival of its frame (R103, R196; log entry 6). -/
abbrev Arriving (s : State) : Prop := s.inReset = false ∧ s.rx.good = [] ∧ s.rx.aligned = true

/-- The command that hands a good frame to its block (R103). -/
def received : Frame → Instr
  | .data f => .dataReceived f
  | .link f => .linkReceived f
  | .hello f => .helloReceived f
  | .bye r => .byeReceived r

/-- A HELLO that is accepted without adoption: R116 at a primary, the first case of R117 at a secondary. -/
abbrev Resumes (f : HelloFrame) (s : State) : Prop :=
  (s.part.role = .primary ∧ f.role = .secondary ∧ f.generation = s.journal.generation ∧
      seqLiesIn f.next s.journal.oldest s.journal.nextSeq = true) ∨
    (s.part.role = .secondary ∧ f.role = .primary ∧ f.generation = s.applyq.streamGeneration ∧
      seqLiesIn s.applyq.expected f.oldest f.next = true)

/-- An address falls in window i of the active bank (R26). -/
abbrev FallsIn (s : State) (a : Nat) (i : WindowId) : Prop :=
  s.table.active[i].present = true ∧ s.table.active[i].firstWord ≤ a ∧ a < s.table.active[i].endWord

/-- On a PRIMARY a write there is captured: CLEAN, or COPYING with the cursor beyond it (R49). -/
abbrev CapturedAt (s : State) (a : Nat) (i : WindowId) : Prop :=
  s.part.role = .primary ∧ FallsIn s a i ∧
    (s.copy.states[i] = .clean ∨ ∃ c, s.copy.states[i] = .copying c ∧ a < c)

/-- On a PRIMARY a write there is plain: PENDING, or COPYING with the cursor at it or before it (R49). -/
abbrev PlainAt (s : State) (a : Nat) (i : WindowId) : Prop :=
  s.part.role = .primary ∧ FallsIn s a i ∧
    (s.copy.states[i] = .pending ∨ ∃ c, s.copy.states[i] = .copying c ∧ c ≤ a)

/-- Outside a reset, the host port and the memory port IDLE and no engine waiting: a host transaction is granted at once
(R46). -/
abbrev HostFree (s : State) : Prop :=
  s.inReset = false ∧ s.host.state = .idle ∧ s.port.holder = .idle ∧ engineRequests s = false

/-- Memory m' is m with the masked bytes of one word replaced: every other byte reads as before (R44). -/
abbrev Wrote (m m' : Memory) (a : Nat) (mask : Mask) (d : Word) : Prop :=
  ∀ b k : Nat, k < 4 → m'.byte b k = if b = a ∧ maskBit mask k = true then wordByte d k else m.byte b k

/-- The state in which a granted host write is at the memory port. -/
def writeGranted (w : HostWrite) (m : Memory) (s : State) : State :=
  ((s.setHost { state := .access (.write w), completion := none }).setPort
    { holder := .hostWrite, lastGrant := .host }).setMem m

/-- A new entry of the journal at seq q, without a hold mark (R1). -/
def newEntry (q : Seq) (c : Content) (st : EntryState) : Entry := { seq := q, content := c, state := st, held := false }

/-- The word a write stores first: its bytes under its mask, the others 0 (R64, R65, R67). -/
def firstStored (w : HostWrite) : MaskedWord := { data := mergeUnderMask w.mask w.data 0#32, mask := w.mask }

/-- The run of one word a write begins, at its address and for its window (R65, R67). -/
def oneWord (i : WindowId) (w : HostWrite) : Run :=
  { window := i.val, start := w.addr.toNat, words := [firstStored w] }

/-- The journal with its OPEN entry sealed and one READY entry more (R10). -/
def appended (c : Content) (j : Journal) : Journal :=
  { j with entries := j.entries.map Entry.seal ++ [newEntry j.nextSeq c .ready], nextSeq := j.nextSeq + 1#12 }

/-- An event has been raised and its counter has counted it. -/
abbrev raisedAndCounted (e : Event) (c : Counter) (s t : State) : Prop :=
  t.events = (raise e s).events ∧ t.counters = (count c s).counters

/-- What a stream restart with reason r and generation g leaves in t of s (R19, R20, R170, R172): the journal discarded
and begun with GENERATION and TABLE, every present window PENDING, STREAM_RESTART raised and counted. With no window
present the SYNCED entry follows at once. A hold on a discarded entry ends ABANDONED. The window table, the parameters,
the apply queue, the Management Port, the receiver but for its silence timer, and the enables are as before. -/
abbrev RestartedStream (r : RestartReason) (g : Gen) (s t : State) : Prop :=
  t.journal.generation = g ∧ t.journal.lastRestart = r ∧ t.journal.sendPoint = s.journal.nextSeq ∧
    t.journal.heldRewind = none ∧ t.journal.fresh = true ∧
    (∀ i : WindowId, t.copy.states[i] = if s.table.active[i].present then .pending else .untracked) ∧
    ((∃ i : WindowId, s.table.active[i].present = true) → t.copy.syncOwed = true ∧
      t.journal.nextSeq = s.journal.nextSeq + 2#12 ∧
      t.journal.entries =
        [newEntry s.journal.nextSeq (.generation g) .ready,
         newEntry (s.journal.nextSeq + 1#12) (.table s.table.active false) .ready]) ∧
    ((∀ i : WindowId, s.table.active[i].present = false) → t.copy.syncOwed = false ∧ flagSet .synced t = true ∧
      t.journal.nextSeq = s.journal.nextSeq + 3#12 ∧
      t.journal.entries =
        [newEntry s.journal.nextSeq (.generation g) .ready,
         newEntry (s.journal.nextSeq + 1#12) (.table s.table.active false) .ready,
         newEntry (s.journal.nextSeq + 2#12) (.synced g) .ready]) ∧
    flagSet .streamRestart t = true ∧ counterValue .streamRestarts t = min (counterValue .streamRestarts s + 1) 65535 ∧
    t.capture.sealTimer = none ∧
    ((∀ w c, s.copy.engine ≠ .waiting w c) → t.copy.engine = s.copy.engine) ∧
    (s.journal.entries.any (fun e => e.held) = true →
      t.hold = { holding := false, timer := none, last := .abandoned } ∧ flagSet .syncLate t = true ∧
        counterValue .syncLate t = min (counterValue .syncLate s + 1) 65535 ∧
        ∀ w, s.host.state = .held w → t.host = { state := .idle, completion := some .writeDone }) ∧
    (s.journal.entries.any (fun e => e.held) = false →
      t.hold = s.hold ∧ counterValue .syncLate t = counterValue .syncLate s) ∧
    t.table = s.table ∧ t.params = s.params ∧ t.applyq = s.applyq ∧ t.mgmt = s.mgmt ∧ t.inReset = s.inReset ∧
    t.pending = s.pending ∧ t.rx = { s.rx with silenceTimer := t.rx.silenceTimer } ∧
    t.events.enables = s.events.enables

/-- A rewind to m that was held behind a DATA frame has been taken, at oldest when a release has passed m: every INFLIGHT
entry from there on is READY, and the send point is there (R17). -/
abbrev HeldRewindTaken (m : Seq) (s t : State) : Prop :=
  ∀ q, q = (if seqPrecedes m s.journal.oldest = true then s.journal.oldest else m) →
    t.journal = { s.journal with heldRewind := none, sendPoint := q, entries := t.journal.entries } ∧
      (q = s.journal.sendPoint → t.journal.entries = s.journal.entries) ∧
      (q ≠ s.journal.sendPoint → t.journal.entries = s.journal.entries.map (fun e =>
        if e.state = .inflight ∧ seqPrecedes e.seq q = false then { e with state := .ready } else e))

/-- The frame in transmission has been ended with ABORT: the transmitter is IDLE, and the lane has carried START, some of
the frame's data bytes and ABORT (R93, R109; how many is log entry 30). -/
abbrev Aborted (s t : State) : Prop :=
  t.tx.sending = none ∧ ∀ f, s.tx.sending = some f → ∃ n ≤ f.bytes.length,
    transmitLane t = .abortedFrame ([.start] ++ (f.bytes.take n).map Symbol.data ++ [.abort])

/-- What a stream restart does to the session (R121, R127): from UP it is lost with RESYNC and seeks, in SEEK it seeks
anew, in any other state it stays. -/
abbrev RestartedSession (s t : State) : Prop :=
  (s.session.state = .up → t.session.state = .seek ∧ t.session.seen = false ∧ t.session.lastLoss = .resync ∧
      Aborted s t ∧ t.tx.helloDue = true ∧ t.rx.silenceTimer = none ∧ t.sender.ackTimer = none ∧
      t.session.helloTimer = some (100 * s.params.helloInterval) ∧ flagSet .linkLost t = true ∧
      counterValue .sessionLosses t = min (counterValue .sessionLosses s + 1) 65535) ∧
    (s.session.state = .seek → t.session.state = .seek ∧ t.session.seen = false ∧ t.tx.helloDue = true ∧
      t.session.helloTimer = some (100 * s.params.helloInterval) ∧
      t.session.lastLoss = s.session.lastLoss ∧ counterValue .sessionLosses t = counterValue .sessionLosses s) ∧
    (s.session.state = .off ∨ s.session.state = .closing ∨ s.session.state = .fault →
      t.session.state = s.session.state ∧ t.session.seen = s.session.seen ∧ t.tx = s.tx ∧
      counterValue .sessionLosses t = counterValue .sessionLosses s)

/-- What every departure from UP to SEEK leaves in t of s (R113, R121): the loss is recorded, raised and counted, the
frame in transmission aborted, the timers stopped, a waiting burst request withdrawn, a HELLO asked for. The journal,
but for a held rewind taken at the abort (log entry 29), the hold, the apply queue, the copy states, memory and the
pending LINK frame are as before. -/
abbrev LostSession (r : LossReason) (s t : State) : Prop :=
  t.session = { s.session with state := .seek, seen := false, lastLoss := r,
                               helloTimer := some (100 * s.params.helloInterval) } ∧
    raisedAndCounted .linkLost .sessionLosses s t ∧ Aborted s t ∧ t.tx.helloDue = true ∧
    t.tx.byeDue = s.tx.byeDue ∧ t.rx = { s.rx with silenceTimer := none } ∧
    t.sender = { s.sender with ackTimer := none } ∧
    t.acker = { s.acker with statusTimer := none } ∧ t.copy.states = s.copy.states ∧
    t.copy.syncOwed = s.copy.syncOwed ∧
    (∀ w c, s.copy.engine = .waiting w c → t.copy.engine = .idle) ∧
    ((∀ w c, s.copy.engine ≠ .waiting w c) → t.copy.engine = s.copy.engine) ∧
    (s.journal.heldRewind = none → t.journal = s.journal) ∧
    (∀ m, s.tx.sending ≠ none → s.journal.heldRewind = some m → HeldRewindTaken m s t) ∧
    t = { s with session := t.session, events := t.events, counters := t.counters, tx := t.tx, rx := t.rx,
                 sender := t.sender, acker := t.acker, copy := t.copy, journal := t.journal }

/-! ## Memory, events, counters, parameters -/

/-- The memory is in its canonical form. -/
abbrev MemoryCanonical (s : State) : Prop := s.mem.wf

/-- A REPEAT is set only while its flag is set (R190), and no counter has passed 65535 (R193). -/
abbrev EventsSound (s : State) : Prop :=
  s.events.repeats &&& ~~~s.events.flags = 0#12 ∧ ∀ i : Fin 15, s.counters[i] ≤ Config.counterMax

/-- Every parameter lies in its range (R189). -/
abbrev ParamsSound (s : State) : Prop :=
  ∀ id : Fin 9, ∃ v ∈ s.params.get? id.val, paramInRange id.val v = true

/-! ## Banks (R25, R27, R40) -/

/-- A bank holds every record in the form of R25. -/
abbrev bankHeld (b : Bank) : Prop := ∀ i : WindowId, b[i] = b[i].normal

/-- Both banks hold their records in normal form, the active bank is valid against MEMPAGES, and while a commit is
pending the part is PRIMARY and the staged bank is valid too (R25, R32, R34, R40). -/
abbrev BanksSound (s : State) : Prop :=
  bankHeld s.table.active ∧ bankHeld s.table.staged ∧ bankValid s.table.active s.params.memPages = true ∧
    (s.table.commitPending = true → s.part.role = .primary ∧ bankValid s.table.staged s.params.memPages = true)

/-! ## Role (R176) -/

/-- The host write in progress is stalled. -/
abbrev stalled (s : State) : Prop := isStalled s = true

/-- What a part that is not PRIMARY, not SECONDARY or DETACHED keeps empty (R41, R61, R147, R163, R176). -/
abbrev RoleSound (s : State) : Prop :=
  (s.part.role ≠ .primary → s.journal.entries = [] ∧ (∀ i : WindowId, s.copy.states[i] = .untracked) ∧
      s.copy.syncOwed = false ∧ s.copy.engine = .idle ∧ s.capture = { stallTimer := none, sealTimer := none } ∧
      ¬stalled s ∧ s.table.commitPending = false) ∧
    (s.part.role ≠ .secondary → s.applyq.queue = [] ∧ s.applyq.engine = .idle ∧ s.part.promotionPending = false) ∧
    (s.part.role = .detached → s.session.state = .off)

/-! ## Holds (R80, R81, R82) -/

/-- Whether the host write in progress has been performed or is being performed. -/
def writePerformed (s : State) : Bool :=
  match s.host.state with
  | .access (.write _) => true
  | .held _ => true
  | _ => false

/-- Whether the host port is HELD. -/
def hostHeld (s : State) : Bool :=
  match s.host.state with
  | .held _ => true
  | _ => false

/-- The hold state is HOLDING exactly while one journal entry carries the hold mark and exactly while the hold timer
runs, at most one entry carries the mark, and the write held is the host's transaction in progress. -/
abbrev HoldSound (s : State) : Prop :=
  s.hold.holding = s.journal.entries.any (fun e => e.held) ∧
    (s.journal.entries.filter (fun e => e.held)).length ≤ 1 ∧
    s.hold.timer.isSome = s.hold.holding ∧
    (s.hold.holding = true → writePerformed s = true) ∧ (hostHeld s = true → s.hold.holding = true)

/-! ## Session, transmitter and timers (R105, R111, R114, R121, R136, R143) -/

/-- What the frame in transmission is, none between frames. -/
def sendingKind (s : State) : Option TxKind := s.tx.sending.map (fun f => f.kind)

/-- Whether a LINK frame is in transmission. -/
def sendingLink (s : State) : Bool :=
  match sendingKind s with
  | some .link => true
  | _ => false

/-- The silence timer runs exactly in UP, the status interval timer exactly in UP at a SECONDARY, the ack timer only in
UP at a PRIMARY, the HELLO timer in SEEK and never in OFF, CLOSING or FAULT; in UP seen is 1; DATA and LINK frames are
sent in UP only, each by its role; a BYE belongs to CLOSING or FAULT; nothing is sent in OFF; a promotion is pending
only in OFF, and a DETACHED part is OFF. -/
abbrev SessionSound (s : State) : Prop :=
  (s.rx.silenceTimer.isSome = true ↔ s.session.state = .up) ∧
    (s.acker.statusTimer.isSome = true ↔ s.session.state = .up ∧ s.part.role = .secondary) ∧
    (s.sender.ackTimer.isSome = true → s.session.state = .up ∧ s.part.role = .primary) ∧
    (s.session.state = .seek → s.session.helloTimer.isSome = true) ∧
    (s.session.helloTimer.isSome = true → s.session.state = .seek ∨ s.session.state = .up) ∧
    (s.session.state = .up → s.session.seen = true) ∧
    (sendingData s = true → s.session.state = .up ∧ s.part.role = .primary) ∧
    (sendingLink s = true → s.session.state = .up ∧ s.part.role = .secondary) ∧
    (s.tx.byeDue = some .disabled ∨ sendingKind s = some (.bye .disabled) → s.session.state = .closing) ∧
    (s.tx.byeDue = some .fault ∨ sendingKind s = some (.bye .fault) → s.session.state = .fault) ∧
    (s.session.state = .closing → (s.tx.byeDue = some .disabled ∨ sendingKind s = some (.bye .disabled))) ∧
    (s.tx.helloDue = true → s.session.state = .seek ∨ s.session.state = .up) ∧
    (s.session.state = .off → s.tx.sending = none) ∧
    (s.part.promotionPending = true → s.session.state = .off) ∧
    (s.part.role = .detached → s.session.state = .off)

/-! ## Outbound Journal (R4, R5, R7, R17, R70) -/

/-- The seqs of n entries that end before `next`, oldest first. -/
def seqsBefore (next : Seq) (n : Nat) : List Seq :=
  (List.range n).map (fun i => next - BitVec.ofNat 12 n + BitVec.ofNat 12 i)

/-- An entry's state goes with its place: INFLIGHT before the send point, READY or OPEN from it on (R7). -/
def entryPlaced (sendPoint : Seq) (e : Entry) : Bool :=
  decide (e.state = .inflight) == seqPrecedes e.seq sendPoint

/-- Whether an entry is a WRITE entry. -/
def Entry.isWrite (e : Entry) : Bool :=
  match e.content with
  | .write _ => true
  | _ => false

/-- A rewind that is held waits behind a DATA frame, and its target lies at most the whole journal before the send
point (R17, R135). -/
def heldRewindSound (s : State) : Bool :=
  match s.journal.heldRewind with
  | none => true
  | some m => sendingData s && decide ((s.journal.sendPoint - m).toNat ≤ Config.journalSlots)

/-- A DATA frame in transmission carries the READY entry at the send point, in UP (R7, R8). -/
def sendingSound (s : State) : Bool :=
  match s.tx.sending with
  | some { kind := .data q, .. } =>
    decide (q = s.journal.sendPoint) && s.journal.entries.any (fun e => decide (e.seq = q ∧ e.state = .ready)) &&
      decide (s.session.state = .up)
  | _ => true

/-- At most 64 entries with consecutive seqs up to next_seq, the send point among them, every state in its place, at most
the newest OPEN and of kind WRITE, and the seal age timer running exactly while it is (R4, R5, R7, R70). -/
abbrev JournalSound (s : State) : Prop :=
  s.journal.entries.length ≤ Config.journalSlots ∧
    s.journal.entries.map (fun e => e.seq) = seqsBefore s.journal.nextSeq s.journal.entries.length ∧
    seqLiesIn s.journal.sendPoint s.journal.oldest s.journal.nextSeq = true ∧
    (∀ e ∈ s.journal.entries, entryPlaced s.journal.sendPoint e = true) ∧
    (∀ e ∈ s.journal.entries.dropLast, e.state ≠ .opened) ∧
    (∀ e ∈ s.journal.entries, e.state = .opened → e.isWrite = true) ∧
    s.capture.sealTimer.isSome = s.journal.hasOpen ∧
    heldRewindSound s = true ∧ sendingSound s = true

/-! ## Apply queue (R147) -/

/-- At most 32 entries counting the one under application, the queued ones consecutive up to expected − 1, each as the
receiver lets one through, and nothing at all unless the part is SECONDARY. -/
abbrev ApplySound (s : State) : Prop :=
  s.applyq.count ≤ Config.applySlots ∧
    s.applyq.queue.map (fun f => f.seq) = seqsBefore s.applyq.expected s.applyq.queue.length ∧
    (∀ f ∈ s.applyq.queue, f.content.wellFormed = true) ∧
    (s.part.role ≠ .secondary → s.applyq.queue = [] ∧ s.applyq.engine = .idle)

/-! ## Copy map (R163) -/

/-- A copy state goes with its record: a COPYING window's cursor lies inside it, a multiple of 16 words from its first
word. -/
def copyStateSound (w : Window) : CopyState → Bool
  | .untracked => !w.present
  | .pending => w.present
  | .clean => w.present
  | .copying c => w.present && decide (w.firstWord ≤ c ∧ c < w.endWord ∧ (c - w.firstWord) % Config.burstWords = 0)

/-- Whether a copy state is COPYING. -/
def CopyState.isCopying : CopyState → Bool
  | .copying _ => true
  | _ => false

/-- Every present window has at least one page (R25). -/
abbrev bankPaged (b : Bank) : Prop := ∀ i : WindowId, b[i].present = true → 1 ≤ b[i].pageCount

/-- On a PRIMARY the copy states go with the active bank and at most one window is COPYING; on any other part every id
is UNTRACKED, no commit is pending and no stall timer runs. -/
abbrev CopyMapSound (s : State) : Prop :=
  bankPaged s.table.active ∧ bankPaged s.table.staged ∧
    (∀ f ∈ s.applyq.queue, f.content.wellFormed = true) ∧
    (∀ i j : WindowId, s.copy.states[i].isCopying = true → s.copy.states[j].isCopying = true → i = j) ∧
    (s.part.role = .primary → ∀ i : WindowId, copyStateSound s.table.active[i] s.copy.states[i] = true) ∧
    (s.part.role ≠ .primary → (∀ i : WindowId, s.copy.states[i] = .untracked) ∧ s.table.commitPending = false ∧
      s.capture.stallTimer = none)

/-! ## Memory port and arbiter (R44 to R47) -/

/-- Whether a host read is at the memory port. -/
def hostReading (s : State) : Bool :=
  match s.host.state with
  | .access (.read _) => true
  | _ => false

/-- Whether a host write is at the memory port. -/
def hostWriting (s : State) : Bool :=
  match s.host.state with
  | .access (.write _) => true
  | _ => false

/-- Whether the Apply Engine is WRITING. -/
def applyWriting (s : State) : Bool :=
  match s.applyq.engine with
  | .writing _ => true
  | _ => false

/-- A BUSY memory port belongs to the operation its holder has in progress, no other operation is in progress, and
nothing waits at an IDLE port. -/
abbrev PortSound (s : State) : Prop :=
  (s.port.holder = .hostRead ↔ hostReading s = true) ∧ (s.port.holder = .hostWrite ↔ hostWriting s = true) ∧
    (s.port.holder = .apply ↔ applyWriting s = true) ∧ (s.port.holder = .burst ↔ copyReading s = true) ∧
    (s.port.holder = .idle → hostRequests s = false ∧ engineRequests s = false)

end Sys2Proof.Machine
end

