-- ==== Sys2Proof/Certificates/Slice0/Obligations.lean ====
section
/-! DEFINITION. The statements about the model: what each command does and when it completes, what every step keeps, and
how frames and characters are read back. Each docstring names the rules of the manual it formalises, and the log
entries a clause rests on where the clause is the model's choice. -/

open Sys2Proof Sys2Proof.Machine

/-! ## The block -/

/-- A step takes the command at the front of the queue and runs it with the queue's rest. On an empty queue the block
idles, which is the model's choice (log entry 1). -/
def Obligations.StepTakesFrontCommand : Prop :=
  ∀ (s : State) (c : Instr) (rest : List Instr),
    step (s.setPending (c :: rest)) = exec c (s.setPending rest) ∧
      step (s.setPending []) = .next (s.setPending [])

/-- Every command completes with a next state, but for a term that spells no event of the part (log entry 26) and for
a copy burst that ends with the journal full, which the manual says does not arise (R10; log entry 9). -/
def Obligations.EveryCommandCompletes : Prop :=
  ∀ (c : Instr) (s : State), (∃ t, exec c s = .next t) ∨
    (c.wellFormed = false ∧ exec c s = .refused .illFormed) ∨
    (c = .copyBurstCompletion ∧ s.inReset = false ∧ copyReading s = true ∧ s.journal.freeSlots = 0 ∧
      exec c s = .fault .copyEntryWithoutSlot)

/-! ## Resets -/

/-- The values right after a power-on or pin reset, block by block (R22, R41, R58, R79, R80, R130, R145, R146, R161,
R175, R176, R194). -/
def Obligations.ResetValues : Prop :=
  State.reset.part = { role := .detached, promotionPending := false, forced := false } ∧
    (∀ i : WindowId, State.reset.table.active[i] = Window.absent ∧ State.reset.table.staged[i] = Window.absent ∧
      State.reset.copy.states[i] = .untracked) ∧
    State.reset.table.commitPending = false ∧ State.reset.copy.syncOwed = false ∧ State.reset.copy.engine = .idle ∧
    State.reset.params = { memPages := 16384, sealAge := 16, ackTimeout := 20, retryLimit := 6, statusInterval := 10,
                           silenceTimeout := 10, helloInterval := 5, holdTimeout := 20, stallTimeout := 10 } ∧
    State.reset.events = { flags := 0#12, repeats := 0#12, enables := 0#12 } ∧
    (∀ c : Counter, counterValue c State.reset = 0) ∧
    State.reset.journal = { entries := [], nextSeq := 0#12, sendPoint := 0#12, generation := 0#16,
                            lastRestart := .none, heldRewind := none } ∧
    State.reset.journal.oldest = 0#12 ∧ State.reset.journal.fresh = false ∧
    State.reset.hold = { holding := false, timer := none, last := .none } ∧
    State.reset.capture = { stallTimer := none, sealTimer := none } ∧
    State.reset.host.state = .idle ∧ State.reset.port = { holder := .idle, lastGrant := .engine } ∧
    State.reset.session = { state := .off, seen := false, lastLoss := .none, faultCause := .none, rejectRestarts := 0,
                            helloTimer := none } ∧
    State.reset.tx.sending = none ∧ State.reset.tx.byeDue = none ∧ State.reset.tx.helloDue = false ∧
    State.reset.rx.framing = .hunt ∧ State.reset.rx.silenceTimer = none ∧ State.reset.rx.aligned = false ∧
    State.reset.sender = { peerLimit := 0#12, retryCount := 0, ackTimer := none } ∧
    State.reset.acker.linkPending = false ∧ State.reset.acker.nakArmed = true ∧
    State.reset.acker.statusTimer = none ∧
    State.reset.applyq = { queue := [], engine := .idle, expected := 0#12, lastApplied := none,
                           streamGeneration := 0#16, dataGeneration := 0#16, consistent := false, reject := false } ∧
    State.reset.applyq.limit = 32#12 ∧ State.reset.mgmt.phase = .idle ∧ attnDriven State.reset = false

/-- A power-on reset, and a pin reset of 1 µs or more, put every block at its reset values and the part in reset: no
symbols, SDO high impedance, ATTN_N released. Memory keeps its bytes, but an apply operation in progress has written
the words whose accesses had ended. A shorter pulse changes nothing. While the reset lasts no command but a reset and
its end has an effect: CS_N moves without beginning or ending a transaction. RESET_END ends it and changes nothing
else (R58, R93, R194). That memory is kept and that the command says how many words had ended are the model's choices
(log entries 8 and 17). -/
def Obligations.PowerAndPinReset : Prop :=
  (∀ (s : State) (lowNs wordsEnded : Nat), ∃ t, exec (.powerOnReset wordsEnded) s = .next t ∧
    (1000 ≤ lowNs → exec (.pinReset lowNs wordsEnded) s = .next t) ∧
    (lowNs < 1000 → exec (.pinReset lowNs wordsEnded) s = .next s) ∧
    t = { State.reset with inReset := true, mgmt := { csLow := s.mgmt.csLow, phase := .idle }, mem := t.mem,
                           tx := { State.reset.tx with aborts := s.tx.aborts }, pending := s.pending } ∧
    (s.port.holder ≠ .apply → t.mem = s.mem) ∧
    (∀ e, s.port.holder = .apply → s.applyq.engine = .writing e → 1 ≤ wordsEnded →
      t.mem = s.mem.writeAll (e.content.accesses.take wordsEnded)) ∧
    transmitLane t = .noSymbols ∧ attnDriven t = false ∧ ∀ k, sdoByte t k = none) ∧
  (∀ (s : State) (c : Instr), s.inReset = true →
    exec .resetEnd s = .next (s.setInReset false) ∧
      exec .managementTransaction s = .next (s.setMgmt { s.mgmt with csLow := true }) ∧
      exec .deselect s = .next (s.setMgmt { s.mgmt with csLow := false }) ∧
      (c.wellFormed = true → (∀ n, c ≠ .powerOnReset n) → (∀ n m, c ≠ .pinReset n m) → c ≠ .resetEnd →
        c ≠ .managementTransaction → c ≠ .deselect → exec c s = .next s))

/-- The deselect of a transaction that selected SOFT_RESET takes the soft reset and leaves these values; a SYNCED append
that is due follows the discard, into its free slot, and its event is not left set. A host transaction waiting in
REQUEST behind an operation keeps its request. A write it finds STALLED requests the port, waiting behind an operation
there, and is performed plainly at its grant: not classified, captured or counted (R23, R38, R59, R76, R79, R86, R110,
R130, R145, R146, R161, R170, R175, R195; that it leaves the apply state so on every role is log entry 14). -/
def Obligations.SoftResetTaken : Prop :=
  (∀ (s : State) (bytes : List Byte), s.inReset = false → s.mgmt = { csLow := true, phase := .response bytes true } →
    isStalled s = false → (hostRequests s = true → s.port.holder ≠ .idle) →
    ∃ t, exec .deselect s = .next t ∧ t.mgmt = { csLow := false, phase := .idle } ∧
      t.part = { s.part with promotionPending := false } ∧ t.table = { s.table with commitPending := false } ∧
      t.params = s.params ∧ t.mem = s.mem ∧ (s.port.holder ≠ .idle → t.port = s.port) ∧
      t.events = { flags := 0#12, repeats := 0#12, enables := s.events.enables } ∧
      (syncedDue s = false → t.copy.syncOwed = s.copy.syncOwed ∧
        t.journal = { s.journal with entries := [], sendPoint := s.journal.nextSeq, heldRewind := none }) ∧
      (syncedDue s = true → t.copy.syncOwed = false ∧
        t.journal = { s.journal with
          entries := [newEntry s.journal.nextSeq (.synced s.journal.generation) .ready]
          nextSeq := s.journal.nextSeq + 1#12, sendPoint := s.journal.nextSeq, heldRewind := none }) ∧
      t.capture = { stallTimer := none, sealTimer := none } ∧
      (s.journal.entries.any (fun e => e.held) = true →
        t.hold = { holding := false, timer := none, last := .abandoned } ∧
          t.counters = (count .syncLate s).counters ∧
          (∀ w, s.host.state = .held w → t.host = { state := .idle, completion := some .writeDone })) ∧
      (s.journal.entries.any (fun e => e.held) = false →
        t.hold = s.hold ∧ t.counters = s.counters ∧ t.host = s.host) ∧
      (hostRequests s = true → t.host = s.host) ∧ t.copy.states = s.copy.states ∧
      (∀ w c v, s.copy.engine = .reading w c v → t.copy.engine = .reading w c true) ∧
      (copyReading s = false → t.copy.engine = .idle) ∧
      t.session = { s.session with state := .off, seen := false, rejectRestarts := 0, helloTimer := none } ∧
      Aborted s t ∧ t.tx.byeDue = none ∧ t.tx.helloDue = false ∧
      t.rx = { aligned := s.rx.aligned, framing := .hunt, silenceTimer := none, good := [] } ∧
      t.sender = { peerLimit := 0#12, retryCount := 0, ackTimer := none } ∧ t.acker.linkPending = false ∧
      t.acker.nakArmed = true ∧ t.acker.statusTimer = none ∧
      t.applyq = { s.applyq with queue := [], engine := t.applyq.engine, expected := 0#12, lastApplied := none,
                                 streamGeneration := 0#16, consistent := false, reject := false } ∧
      (∀ e, s.applyq.engine = .writing e → t.applyq.engine = .writing e)) ∧
  (∀ (s : State) (bytes : List Byte) (w : HostWrite), s.inReset = false →
    s.mgmt = { csLow := true, phase := .response bytes true } → s.host = { state := .stalled w, completion := none } →
    s.applyq.engine = .idle → s.journal.entries.any (fun e => e.held) = false →
    ∃ t, exec .deselect s = .next t ∧ t.counters = s.counters ∧ t.capture.stallTimer = none ∧
      t.events = { flags := 0#12, repeats := 0#12, enables := s.events.enables } ∧
      (syncedDue s = false → t.journal.entries = [] ∧ t.journal.nextSeq = s.journal.nextSeq) ∧
      (s.port.holder ≠ .idle → t.host = { state := .request (.write w) true true, completion := none } ∧
        t.port = s.port ∧ t.mem = s.mem) ∧
      (s.port.holder = .idle → s.mem.fits w.addr.toNat = true → s.mem.wf →
        t.host = { state := .access (.write w), completion := none } ∧
        t.port = { holder := .hostWrite, lastGrant := .host } ∧ Wrote s.mem t.mem w.addr.toNat w.mask w.data))

/-! ## Management Port -/

/-- A falling edge of CS_N begins a transaction and a rising edge ends it in any phase, a selected soft reset apart;
SOFT_RESET forms its result OK and is not yet taken; a byte that names no command is answered UNKNOWN and changes
nothing. Argument bytes may come in pieces: a command with fewer than it takes waits in ARGUMENTS, and the same
command with the rest acts as if they had come at once. The bytes of a transaction spell the command whose byte comes
first, with its argument bytes, and UNKNOWN for a byte that names none (R184, R185, R186, R195, R198; log entries 15
and 23). -/
def Obligations.TransactionsBeginAndEnd : Prop :=
  (∀ s : State, s.inReset = false →
    (s.mgmt.csLow = false →
      exec .managementTransaction s = .next (s.setMgmt { csLow := true, phase := .command })) ∧
    (s.mgmt.csLow = true → (∀ bytes, s.mgmt.phase ≠ .response bytes true) →
      exec .deselect s = .next (s.setMgmt { csLow := false, phase := .idle })) ∧
    (s.mgmt.phase = .command →
      exec .softReset s = .next (s.setMgmt { s.mgmt with phase := .response [0x01#8] true })) ∧
    (∀ code, s.mgmt.phase = .command → (∀ c ∈ mgmtCommands, c.code ≠ code) →
      exec (.unknownCommand code) s = .next (s.setMgmt { s.mgmt with phase := .response [0x07#8] false }))) ∧
  (∀ s : State, Commanded s → ∀ p ∈ argumentCommands, ∀ a b : List Byte, a.length < p.2 →
    ∃ u, exec (p.1 a) s = .next u ∧ u = s.setMgmt { s.mgmt with phase := u.mgmt.phase } ∧
      (∀ k, sdoByte u k = some 0x00#8) ∧ exec (p.1 b) u = exec (p.1 (a ++ b)) s) ∧
  (∀ c ∈ mgmtCommands, ∀ args : List Byte, args.length = c.argCount →
    decodeTableWord (8 * (1 + c.argCount)) (wordOf (c.code :: args)) = some (c.instr args)) ∧
  (∀ code : Byte, (∀ c ∈ mgmtCommands, c.code ≠ code) →
    decodeTableWord 8 code.toNat = some (.unknownCommand code))

/-- READ_ID answers with the identification in every role and state and changes nothing; the link revision 1 is the
one the part sends in its HELLO frames, and a HELLO with another takes the session to FAULT with cause REVISION
(R187). -/
def Obligations.ReadIdAnswers : Prop :=
  (∀ s : State, Commanded s → exec .readId s =
    .next (s.setMgmt { s.mgmt with phase := .response [0x01#8, 0x6B#8, 0x31#8, 0x40#8, 0x01#8, 0x01#8] false })) ∧
  (∀ s : State, (helloFrame s).revision = 0x01#8) ∧
  (∀ (s : State) (f : HelloFrame), Arriving s → (Frame.hello f).wellFormed = true →
    (s.session.state = .seek ∨ s.session.state = .up) → f.revision ≠ 0x01#8 →
    ∃ t, exec (.helloReceived f) s = .next t ∧ t.session.state = .fault ∧ t.session.faultCause = .revision)

/-- READ_STATUS answers OK with a status record of 38 bytes, every field at its offset, and changes nothing (R188,
R198; what bit 7 of byte 1 shows is log entry 22). -/
def Obligations.StatusRecord : Prop :=
  ∀ s : State, Commanded s → ∃ r : List Byte, r.length = 38 ∧ exec .readStatus s = .next (responded .ok r s) ∧
    r.take 9 =
      [roleByte s.part.role,
       flagBit s.part.promotionPending 0 ||| flagBit s.part.forced 1 ||| flagBit s.table.commitPending 2 |||
         flagBit s.journal.hasOpen 3 ||| flagBit s.journal.fresh 4 ||| flagBit s.session.seen 5 |||
         flagBit s.copy.syncOwed 6 ||| flagBit (syncedDue s) 7,
       sessionByte s.session.state, lossByte s.session.lastLoss, faultCauseByte s.session.faultCause,
       BitVec.ofNat 8 s.session.rejectRestarts, restartByte s.journal.lastRestart,
       BitVec.ofNat 8 s.journal.entries.length, BitVec.ofNat 8 (64 - s.journal.entries.length)] ∧
    (r.drop 9).take 10 = seqBytes s.journal.oldest ++ seqBytes s.journal.sendPoint ++ seqBytes s.journal.nextSeq ++
      be16Bytes s.journal.generation ++ seqBytes s.sender.peerLimit ∧
    (r.drop 19).take 4 =
      [BitVec.ofNat 8 s.sender.retryCount,
       flagBit (isStalled s) 0 ||| flagBit s.hold.holding 1 ||| (BitVec.ofNat 8 (holdOutcomeCode s.hold.last) <<< 2),
       BitVec.ofNat 8 s.applyq.count, applyEngineByte s.applyq.engine] ∧
    (r.drop 23).take 4 = seqBytes s.applyq.expected ++ seqBytes s.applyq.limit ∧
    (s.applyq.lastApplied = none → (r.drop 27).take 2 = [0xFF#8, 0xFF#8]) ∧
    (∀ q, s.applyq.lastApplied = some q → (r.drop 27).take 2 = seqBytes q) ∧
    (r.drop 29).take 5 = be16Bytes s.applyq.streamGeneration ++ be16Bytes s.applyq.dataGeneration ++
      [flagBit s.applyq.consistent 0 ||| flagBit s.applyq.reject 1] ∧
    ((∀ i : WindowId, s.copy.states[i].isCopying = false) → r.drop 34 = [0xFF#8, 0#8, 0#8, 0#8]) ∧
    (∀ (i : WindowId) (c : Nat), s.copy.states[i] = .copying c →
      (∀ j : WindowId, s.copy.states[j].isCopying = true → j = i) →
      r.drop 34 = [BitVec.ofNat 8 i.val, BitVec.ofNat 8 (c / 65536), BitVec.ofNat 8 (c / 256), BitVec.ofNat 8 c])

/-- READ_EVENTS returns flags, REPEATs and enables; CLEAR_EVENTS clears the flag and the REPEAT of every event in its
mask; raising an event sets its flag, or its REPEAT over a set flag, whatever its enable. READ_COUNTER returns a
counter's value, an id outside 0 to 14 gives BAD_ARG, CLEAR_COUNTERS sets all fifteen to 0, and an increment adds one
to its own counter, which stays at 65535 (R190, R191, R193). -/
def Obligations.EventsAndCounters : Prop :=
  (∀ s : State, Commanded s → exec .readEvents s = .next (responded .ok
    (be16Bytes (s.events.flags.zeroExtend 16) ++ be16Bytes (s.events.repeats.zeroExtend 16) ++
      be16Bytes (s.events.enables.zeroExtend 16)) s)) ∧
  (∀ (s : State) (hi lo : Byte), Commanded s → ∃ t, exec (.clearEvents [hi, lo]) s =
      .next (responded .ok [] (s.setEvents t)) ∧ t.enables = s.events.enables ∧
      ∀ k < 12, t.flags.getLsbD k = (s.events.flags.getLsbD k && !(hi ++ lo).getLsbD k) ∧
        t.repeats.getLsbD k = (s.events.repeats.getLsbD k && !(hi ++ lo).getLsbD k)) ∧
  (∀ (s : State) (e f : Event), flagSet f (raise e s) = (flagSet f s || decide (f = e)) ∧
    repeatSet f (raise e s) = (repeatSet f s || (decide (f = e) && flagSet e s)) ∧
    (raise e s).events.enables = s.events.enables) ∧
  (∀ (s : State) (c : Counter), Commanded s → exec (.readCounter [BitVec.ofNat 8 c.id.val]) s =
    .next (responded .ok (be16Bytes (BitVec.ofNat 16 (counterValue c s))) s)) ∧
  (∀ (s : State) (id : Byte), Commanded s → 15 ≤ id.toNat →
    exec (.readCounter [id]) s = .next (responded .badArg [] s)) ∧
  (∀ s : State, Commanded s → ∃ t, exec .clearCounters s = .next (responded .ok [] (s.setCounters t)) ∧
    ∀ i : Fin 15, t[i] = 0) ∧
  (∀ (s : State) (c d : Counter), counterValue d (count c s) =
    if d = c then min (counterValue d s + 1) 65535 else counterValue d s)

/-- SET_ENABLES replaces the enables with bits 0 to 11 of its mask, result OK; ATTN_N is low exactly while an event
has both its flag and its enable set, and released while a reset lasts and after it (R192). -/
def Obligations.EnablesAndAttention : Prop :=
  (∀ (s : State) (hi lo : Byte), Commanded s → ∃ enables : BitVec 12,
    exec (.setEnables [hi, lo]) s = .next (responded .ok [] (s.setEvents { s.events with enables := enables })) ∧
      ∀ k < 12, enables.getLsbD k = (hi ++ lo).getLsbD k) ∧
  (∀ s : State, s.inReset = false → (attnDriven s = true ↔
    ∃ k < 12, s.events.flags.getLsbD k = true ∧ s.events.enables.getLsbD k = true)) ∧
  (∀ s : State, s.inReset = true → attnDriven s = false) ∧ attnDriven State.reset = false

/-- READ_WINDOW, READ_COPY_STATE and READ_CONFIG answer with one record, one copy state with its cursor, one
parameter, or BAD_ARG outside the ranges, and change nothing (R31, R164, R189, R198). -/
def Obligations.RegisterReads : Prop :=
  ∀ s : State, Commanded s →
    (∀ (i : WindowId) (staged : Bool), ∃ w : Window,
      w = (if staged then s.table.staged[i] else s.table.active[i]) ∧
      exec (.readWindow [boolByte staged, BitVec.ofNat 8 i.val]) s = .next (responded .ok
        ([boolByte w.present] ++ be16Bytes (BitVec.ofNat 16 w.basePage) ++ be16Bytes (BitVec.ofNat 16 w.pageCount) ++
          [modeByte w.mode]) s)) ∧
    (∀ b i : Byte, 2 ≤ b.toNat ∨ 16 ≤ i.toNat → exec (.readWindow [b, i]) s = .next (responded .badArg [] s)) ∧
    (∀ i : WindowId, ∃ r : List Byte,
      exec (.readCopyState [BitVec.ofNat 8 i.val]) s = .next (responded .ok r s) ∧
      (s.copy.states[i] = .untracked → r = [0x00#8, 0#8, 0#8, 0#8]) ∧
      (s.copy.states[i] = .pending → r = [0x01#8, 0#8, 0#8, 0#8]) ∧
      (s.copy.states[i] = .clean → r = [0x03#8, 0#8, 0#8, 0#8]) ∧
      (∀ c, s.copy.states[i] = .copying c →
        r = [0x02#8, BitVec.ofNat 8 (c / 65536), BitVec.ofNat 8 (c / 256), BitVec.ofNat 8 c])) ∧
    (∀ i : Byte, 16 ≤ i.toNat → exec (.readCopyState [i]) s = .next (responded .badArg [] s)) ∧
    (∀ p : Byte, 9 ≤ p.toNat → exec (.readConfig [p]) s = .next (responded .badArg [] s)) ∧
    (∀ p : Byte, p.toNat < 9 → ∃ v, s.params.get? p.toNat = some v ∧
      exec (.readConfig [p]) s = .next (responded .ok (be16Bytes (BitVec.ofNat 16 v)) s))

/-! ## Window table and configuration -/

/-- WRITE_STAGED_WINDOW tests a pending commit, the ranges and validity in that order, and otherwise replaces one
record of the staged bank and nothing else; an absent record is stored in normal form without validation. A bank is
valid against a page count exactly when every present record ends within it and no two share a page (R25, R27, R28).
-/
def Obligations.WriteStagedWindow : Prop :=
  (∀ (s : State) (i p bh bl ch cl m : Byte), Commanded s →
    (s.table.commitPending = true →
      exec (.writeStagedWindow [i, p, bh, bl, ch, cl, m]) s = .next (responded .locked [] s)) ∧
    (s.table.commitPending = false →
      (16 ≤ i.toNat ∨ 2 ≤ p.toNat ∨ 16384 ≤ (bh ++ bl).toNat ∨ (ch ++ cl).toNat = 0 ∨ 16385 ≤ (ch ++ cl).toNat ∨
        2 ≤ m.toNat) →
      exec (.writeStagedWindow [i, p, bh, bl, ch, cl, m]) s = .next (responded .badArg [] s)) ∧
    (∀ (id : WindowId) (mode : Mode), s.table.commitPending = false → i.toNat = id.val →
      (bh ++ bl).toNat ≤ 16383 → 1 ≤ (ch ++ cl).toNat → (ch ++ cl).toNat ≤ 16384 → m = modeByte mode →
      (p = 0x00#8 → exec (.writeStagedWindow [i, p, bh, bl, ch, cl, m]) s = .next (responded .ok []
        (s.setTable { s.table with staged := s.table.staged.set id Window.absent }))) ∧
      (p = 0x01#8 → ∀ bank, bank = s.table.staged.set id
          { present := true, basePage := (bh ++ bl).toNat, pageCount := (ch ++ cl).toNat, mode := mode } →
        exec (.writeStagedWindow [i, p, bh, bl, ch, cl, m]) s = .next
          (if bankValid bank s.params.memPages = true
            then responded .ok [] (s.setTable { s.table with staged := bank })
            else responded .badArg [] s)))) ∧
  (∀ (b : Bank) (pages : Nat), bankValid b pages = true ↔
    (∀ i : WindowId, b[i].present = true → b[i].basePage + b[i].pageCount ≤ pages) ∧
    (∀ i j : WindowId, i ≠ j → b[i].present = true → b[j].present = true →
      b[i].basePage + b[i].pageCount ≤ b[j].basePage ∨ b[j].basePage + b[j].pageCount ≤ b[i].basePage))

/-- COPY_ACTIVE_TO_STAGED is refused with LOCKED while a commit is pending and otherwise replaces the staged bank with
the active one, OK, on every role; the staged bank is then valid, the active bank being so at every moment (R30). -/
def Obligations.CopyActiveToStaged : Prop :=
  ∀ s : State, Commanded s →
    (s.table.commitPending = true → exec .copyActiveToStaged s = .next (responded .locked [] s)) ∧
    (s.table.commitPending = false → exec .copyActiveToStaged s =
      .next (responded .ok [] (s.setTable { s.table with staged := s.table.active }))) ∧
    (∀ t, BanksSound s → exec .copyActiveToStaged s = .next t →
      bankValid t.table.staged t.params.memPages = true ∨ s.table.commitPending = true)

/-- COMMIT_TABLE: BAD_STATE on a SECONDARY, BUSY while a commit is pending, BAD_ARG for an invalid staged bank; OK and
the immediate commit on a DETACHED part; ACCEPTED on a PRIMARY, pending while the journal is full and complete at once
when it has a slot (R32, R33, R34; log entry 11). -/
def Obligations.CommitTable : Prop :=
  ∀ s : State, Commanded s →
    (s.part.role = .secondary → exec .commitTable s = .next (responded .badState [] s)) ∧
    (s.part.role ≠ .secondary → s.table.commitPending = true →
      exec .commitTable s = .next (responded .busy [] s)) ∧
    (s.part.role ≠ .secondary → s.table.commitPending = false →
      bankValid s.table.staged s.params.memPages = false → exec .commitTable s = .next (responded .badArg [] s)) ∧
    (s.part.role = .detached → s.table.commitPending = false →
      bankValid s.table.staged s.params.memPages = true → exec .commitTable s =
        .next (responded .ok [] (raise .commitDone (s.setTable { s.table with active := s.table.staged })))) ∧
    (s.part.role = .primary → s.table.commitPending = false →
      bankValid s.table.staged s.params.memPages = true → s.journal.entries.length = 64 → exec .commitTable s =
        .next (responded .accepted [] (s.setTable { s.table with commitPending := true }))) ∧
    (s.part.role = .primary → s.table.commitPending = false →
      bankValid s.table.staged s.params.memPages = true → s.journal.entries.length < 64 →
      ∃ t, exec .commitTable s = .next (responded .accepted [] t) ∧
        exec .commitCompletion (s.setTable { s.table with commitPending := true }) = .next t ∧
        t.table = { active := s.table.staged, staged := s.table.staged, commitPending := false } ∧
        flagSet .commitDone t = true)

/-- A pending commit completes when the journal has a slot: the identity rule gives the copy states, the OPEN entry is
sealed, the TABLE entry with its complete flag is appended, the active bank is replaced, COMMIT_DONE is raised; with
complete false sync is owed, with complete true and sync owed the SYNCED entry follows when a second slot is free. A
SYNCED append that is due takes a free slot and ends sync owed. What is not pending, not due or without a slot changes
nothing (R34, R35, R170, R171). -/
def Obligations.CommitAndSyncedComplete : Prop :=
  (∀ s : State, s.inReset = false →
    (s.table.commitPending = false ∨ 64 ≤ s.journal.entries.length → exec .commitCompletion s = .next s) ∧
    (s.table.commitPending = true → s.journal.entries.length < 64 →
      ∃ t, exec .commitCompletion s = .next t ∧
        t = { s with table := t.table, copy := t.copy, journal := t.journal, events := t.events,
                     capture := t.capture } ∧
        t.table = { active := s.table.staged, staged := s.table.staged, commitPending := false } ∧
        flagSet .commitDone t = true ∧ t.capture = { s.capture with sealTimer := none } ∧
        (∀ i : WindowId, t.copy.states[i] =
          if s.table.staged[i].present = false then .untracked
          else if s.table.active[i].present = true ∧ s.table.staged[i].basePage = s.table.active[i].basePage ∧
              s.table.staged[i].pageCount = s.table.active[i].pageCount then s.copy.states[i]
          else .pending) ∧
        ∀ complete : Bool, (complete = true ↔
            ∀ i : WindowId, s.table.staged[i].present = true → t.copy.states[i] = .clean) →
          ((complete = false ∨ s.copy.syncOwed = false ∨ s.journal.entries.length = 63) →
            t.copy.syncOwed = (s.copy.syncOwed || !complete) ∧
            t.journal = appended (.table s.table.staged complete) s.journal) ∧
          ((complete = true ∧ s.copy.syncOwed = true ∧ s.journal.entries.length < 63) →
            t.copy.syncOwed = false ∧ flagSet .synced t = true ∧
            t.journal = appended (.synced s.journal.generation) (appended (.table s.table.staged true) s.journal)))) ∧
  (∀ s : State, s.inReset = false →
    ((s.copy.syncOwed = false ∨ (∃ i : WindowId, s.table.active[i].present = true ∧ s.copy.states[i] ≠ .clean) ∨
        64 ≤ s.journal.entries.length) → exec .syncedAppend s = .next s) ∧
    (s.copy.syncOwed = true → (∀ i : WindowId, s.table.active[i].present = true → s.copy.states[i] = .clean) →
      s.journal.entries.length < 64 →
      ∃ t, exec .syncedAppend s = .next t ∧
        t = { s with copy := t.copy, journal := t.journal, events := (raise .synced s).events, capture := t.capture } ∧
        t.copy.states = s.copy.states ∧ t.copy.syncOwed = false ∧
        t.capture = { s.capture with sealTimer := none } ∧
        t.journal = appended (.synced s.journal.generation) s.journal))

/-- SET_CONFIG tests the id, the lock of MEMPAGES, the range and the active bank in that order, and otherwise gives
the one parameter the value and changes nothing else (R40, R189). -/
def Obligations.SetConfig : Prop :=
  ∀ (s : State) (p hi lo : Byte), Commanded s →
    (9 ≤ p.toNat → exec (.setConfig [p, hi, lo]) s = .next (responded .badArg [] s)) ∧
    (p = 0x00#8 → s.part.role ≠ .detached → exec (.setConfig [p, hi, lo]) s = .next (responded .locked [] s)) ∧
    (p.toNat < 9 → (p = 0x00#8 → s.part.role = .detached) →
      ((p = 0x00#8 → 1 ≤ (hi ++ lo).toNat ∧ (hi ++ lo).toNat ≤ 16384) ∧
        (p = 0x03#8 → 1 ≤ (hi ++ lo).toNat ∧ (hi ++ lo).toNat ≤ 15) ∧ (p = 0x08#8 → (hi ++ lo).toNat ≤ 255) ∧
        (p ≠ 0x00#8 → p ≠ 0x03#8 → p ≠ 0x08#8 → 1 ≤ (hi ++ lo).toNat ∧ (hi ++ lo).toNat ≤ 255) →
          (p = 0x00#8 → ∀ i : WindowId, s.table.active[i].present = true →
            s.table.active[i].basePage + s.table.active[i].pageCount ≤ (hi ++ lo).toNat) →
          ∃ q, exec (.setConfig [p, hi, lo]) s = .next (responded .ok [] (s.setParams q)) ∧
            ∀ j < 9, q.get? j = if j = p.toNat then some (hi ++ lo).toNat else s.params.get? j) ∧
      (¬((p = 0x00#8 → 1 ≤ (hi ++ lo).toNat ∧ (hi ++ lo).toNat ≤ 16384) ∧
          (p = 0x03#8 → 1 ≤ (hi ++ lo).toNat ∧ (hi ++ lo).toNat ≤ 15) ∧ (p = 0x08#8 → (hi ++ lo).toNat ≤ 255) ∧
          (p ≠ 0x00#8 → p ≠ 0x03#8 → p ≠ 0x08#8 → 1 ≤ (hi ++ lo).toNat ∧ (hi ++ lo).toNat ≤ 255)) ∨
        (p = 0x00#8 ∧ ∃ i : WindowId, s.table.active[i].present = true ∧
            (hi ++ lo).toNat < s.table.active[i].basePage + s.table.active[i].pageCount) →
        exec (.setConfig [p, hi, lo]) s = .next (responded .badArg [] s)))

/-! ## Role, promotion, session -/

/-- SET_ROLE's tests in their order, each with its result and nothing changed; naming the present role only sets the
reject-restart count to 0; otherwise the role changes (R177). -/
def Obligations.SetRoleTests : Prop :=
  ∀ s : State, Commanded s →
    (∀ b : Byte, 3 ≤ b.toNat → exec (.setRole [b]) s = .next (responded .badArg [] s)) ∧
    (∀ r : Role,
      (s.session.state ≠ .off → exec (.setRole [roleByte r]) s = .next (responded .badState [] s)) ∧
      (s.session.state = .off → s.table.commitPending = true ∨ s.part.promotionPending = true ∨
          (s.part.role = .secondary ∧ r ≠ .secondary ∧ s.applyq.count ≠ 0) ∨
          (s.part.role = .primary ∧ r ≠ .primary ∧ copyReading s = true) →
        exec (.setRole [roleByte r]) s = .next (responded .busy [] s)) ∧
      (s.session.state = .off → s.table.commitPending = false → s.part.promotionPending = false → r = s.part.role →
        exec (.setRole [roleByte r]) s =
          .next (responded .ok [] (s.setSession { s.session with rejectRestarts := 0 }))) ∧
      (s.session.state = .off → s.table.commitPending = false → s.part.promotionPending = false → r ≠ s.part.role →
        (s.part.role = .secondary → s.applyq.count = 0) → (s.part.role = .primary → copyReading s = false) →
        ∃ t, exec (.setRole [roleByte r]) s = .next (responded .ok [] t) ∧
          t.part = { role := r, promotionPending := false, forced := false } ∧ t.session.rejectRestarts = 0))

/-- Leaving PRIMARY discards the journal, ends hold and stall, clears copy map and delivery state; leaving SECONDARY
drops the pending LINK frame and keeps the apply state; arriving in SECONDARY resets the apply state but
data_generation, arriving in DETACHED does nothing more. Banks, parameters and memory stay (R24, R41, R162, R178,
R179; that a write whose stall has ended does not yet stand at the arbiter is log entry 5). -/
def Obligations.RoleChanges : Prop :=
  ∀ (s : State) (r : Role), Commanded s → s.session.state = .off → s.table.commitPending = false →
    s.part.promotionPending = false → r ≠ s.part.role → r ≠ .primary →
    (s.part.role = .secondary → s.applyq.count = 0) → (s.part.role = .primary → copyReading s = false) →
    ∃ t, exec (.setRole [roleByte r]) s = .next (responded .ok [] t) ∧
      t = { s with part := { role := r, promotionPending := false, forced := false },
                   session := { s.session with rejectRestarts := 0 }, applyq := t.applyq, acker := t.acker,
                   journal := t.journal, copy := t.copy, sender := t.sender, capture := t.capture, host := t.host,
                   hold := t.hold, events := t.events, counters := t.counters } ∧
      (s.part.role = .primary →
        t.journal = { s.journal with entries := [], sendPoint := s.journal.nextSeq, heldRewind := none } ∧
        (∀ i : WindowId, t.copy.states[i] = .untracked) ∧ t.copy.syncOwed = false ∧ t.copy.engine = .idle ∧
        t.sender = { peerLimit := 0#12, retryCount := 0, ackTimer := none } ∧
        t.capture = { stallTimer := none, sealTimer := none } ∧
        (∀ w, s.host.state = .stalled w → t.host = { s.host with state := .request (.write w) false false }) ∧
        (s.journal.entries.any (fun e => e.held) = true →
          t.hold = { holding := false, timer := none, last := .abandoned } ∧ raisedAndCounted .syncLate .syncLate s t ∧
            ∀ w, s.host.state = .held w → t.host = { state := .idle, completion := some .writeDone }) ∧
        (s.journal.entries.any (fun e => e.held) = false →
          t.hold = s.hold ∧ t.events = s.events ∧ t.counters = s.counters)) ∧
      (s.part.role ≠ .primary → t.journal = s.journal ∧ t.copy = s.copy ∧ t.sender = s.sender ∧
        t.capture = s.capture ∧ t.host = s.host ∧ t.hold = s.hold ∧ t.events = s.events ∧ t.counters = s.counters) ∧
      (r = .detached → t.applyq = s.applyq) ∧
      (r = .secondary → t.applyq = { s.applyq with expected := 0#12, streamGeneration := 0#16, consistent := false,
                                                   lastApplied := none, reject := false }) ∧
      (s.part.role = .secondary ∨ r = .secondary →
        t.acker.linkPending = false ∧ t.acker.nakArmed = true ∧ t.acker.statusTimer = none)

/-- A part becomes PRIMARY by SET_ROLE or at the end of its drain, with a stream restart with reason ROLE or PROMOTE
whose generation lies above both its own and its data_generation, skipping 0; the forced flag tells of a promotion
that completed INCONSISTENT; a promotion raises PROMOTE_DONE. Before the drain ends PROMOTION_COMPLETION changes
nothing (R20, R21, R179, R182; where the row stands is log entry 11). -/
def Obligations.BecomingPrimary : Prop :=
  ∀ (s : State) (g : Gen), s.inReset = false → s.session.state = .off →
    g = (if max s.journal.generation.toNat s.applyq.dataGeneration.toNat = 65535 then 1#16
      else BitVec.ofNat 16 (max s.journal.generation.toNat s.applyq.dataGeneration.toNat + 1)) →
    (s.mgmt.phase = .command → s.part.role ≠ .primary → s.table.commitPending = false →
      s.part.promotionPending = false → s.applyq.count = 0 →
      ∃ t, exec (.setRole [0x01#8]) s = .next (responded .ok [] t) ∧
        t.part = { role := .primary, promotionPending := false, forced := false } ∧ RestartedStream .role g s t ∧
        t.session = { s.session with rejectRestarts := 0 } ∧
        t.sender = { peerLimit := 0#12, retryCount := 0, ackTimer := none } ∧ t.mem = s.mem ∧ t.applyq = s.applyq) ∧
    (s.part.promotionPending = true → s.applyq.count = 0 →
      ∃ t, exec .promotionCompletion s = .next t ∧
        t.part = { role := .primary, promotionPending := false, forced := !s.applyq.consistent } ∧
        RestartedStream .promote g s t ∧ flagSet .promoteDone t = true ∧
        t.session = { s.session with rejectRestarts := 0 } ∧
        t.sender = { peerLimit := 0#12, retryCount := 0, ackTimer := none } ∧ t.acker.linkPending = false ∧
        t.acker.statusTimer = none ∧ t.mem = s.mem ∧ t.applyq = s.applyq) ∧
    (s.part.promotionPending = false ∨ s.applyq.count ≠ 0 → exec .promotionCompletion s = .next s)

/-- PROMOTE's tests in their order, nothing changed by a refusal; otherwise ACCEPTED: the promotion is pending while
the queue drains, and completes at once when the queue is empty (R180, R182). -/
def Obligations.Promote : Prop :=
  ∀ s : State, Commanded s →
    (∀ b : Byte, 2 ≤ b.toNat → exec (.promote [b]) s = .next (responded .badArg [] s)) ∧
    (∀ force : Bool,
      (s.part.role ≠ .secondary ∨ s.session.state ≠ .off →
        exec (.promote [boolByte force]) s = .next (responded .badState [] s)) ∧
      (s.part.role = .secondary → s.session.state = .off → s.part.promotionPending = true →
        exec (.promote [boolByte force]) s = .next (responded .busy [] s)) ∧
      (s.part.role = .secondary → s.session.state = .off → s.part.promotionPending = false →
        s.applyq.consistent = false → force = false →
        exec (.promote [boolByte force]) s = .next (responded .badState [] s)) ∧
      (s.part.role = .secondary → s.session.state = .off → s.part.promotionPending = false →
        (s.applyq.consistent = true ∨ force = true) → s.applyq.count ≠ 0 →
        exec (.promote [boolByte force]) s =
          .next (responded .accepted [] (s.setPart { s.part with promotionPending := true }))) ∧
      (s.part.role = .secondary → s.session.state = .off → s.part.promotionPending = false →
        (s.applyq.consistent = true ∨ force = true) → s.applyq.count = 0 →
        ∃ t, exec (.promote [boolByte force]) s = .next (responded .accepted [] t) ∧
          exec .promotionCompletion (s.setPart { s.part with promotionPending := true }) = .next t ∧
          t.part = { role := .primary, promotionPending := false, forced := !s.applyq.consistent } ∧
          flagSet .promoteDone t = true ∧ t.journal.lastRestart = .promote))

/-- LINK_ENABLE's tests in their order; otherwise OK and entry to SEEK: seen 0, a HELLO asked for, the HELLO timer
started, the receiver in HUNT, nothing else changed. The session of a DETACHED part is OFF (R112). -/
def Obligations.LinkEnable : Prop :=
  ∀ s : State, Commanded s →
    exec .linkEnable s = .next
      (if s.session.state ≠ .off then responded .badState [] s
       else if s.part.role = .detached then responded .badState [] s
       else if s.part.promotionPending = true then responded .busy [] s
       else responded .ok [] { s with
         session := { s.session with state := .seek, seen := false,
                                     helloTimer := some (100 * s.params.helloInterval) }
         tx := { s.tx with helloDue := true }
         rx := { s.rx with framing := .hunt } }) ∧
    (∀ t, RoleSound s → exec .linkEnable s = .next t → t.part.role = .detached → t.session.state = .off)

/-- LINK_DISABLE closes the session from any state with result OK: nothing in OFF and CLOSING, CLOSING from SEEK
without a loss, a loss with DISABLED and CLOSING from UP, OFF at once from FAULT. The frame in transmission is
aborted, and a rewind held behind it is taken then (log entry 29); else the journal, and always the apply queue and
the copy states, stay (R17, R109, R121, R123, R124). -/
def Obligations.LinkDisable : Prop :=
  ∀ s : State, Commanded s → ∃ t, exec .linkDisable s = .next (responded .ok [] t) ∧
    t = { s with session := t.session, tx := t.tx, rx := t.rx, sender := t.sender, acker := t.acker, copy := t.copy,
                 journal := t.journal, events := t.events, counters := t.counters } ∧
    (s.session.state = .off ∨ s.session.state = .closing → t = s) ∧
    (s.session.state = .seek → t.session = { s.session with state := .closing, helloTimer := none } ∧
      t.events = s.events ∧ t.counters = s.counters) ∧
    (s.session.state = .up →
      t.session = { s.session with state := .closing, lastLoss := .disabled, helloTimer := none } ∧
      raisedAndCounted .linkLost .sessionLosses s t ∧ t.rx.silenceTimer = none ∧ t.sender.ackTimer = none ∧
      t.acker = { s.acker with statusTimer := none }) ∧
    (s.session.state = .seek ∨ s.session.state = .up → Aborted s t ∧ t.tx.helloDue = false ∧
      t.tx.byeDue = some .disabled) ∧
    (s.session.state = .fault → t.session = { s.session with state := .off, helloTimer := none } ∧
      Aborted s t ∧ t.tx.byeDue = none ∧ t.tx.helloDue = false ∧ t.rx.framing = .hunt) ∧
    (s.journal.heldRewind = none → t.journal = s.journal) ∧
    (∀ m, s.session.state = .seek ∨ s.session.state = .up ∨ s.session.state = .fault → s.tx.sending ≠ none →
      s.journal.heldRewind = some m → HeldRewindTaken m s t) ∧
    t.copy.states = s.copy.states

/-- START_RESYNC: BAD_STATE on a part that is not PRIMARY, promotion pending or not; on a PRIMARY OK in every session
state, with a stream restart with reason COMMAND at once, which ends a stall and a hold and leaves a pending commit
pending (R20, R76, R85, R127, R170, R172, R174; that a write whose stall has ended does not yet stand at the arbiter
is log entry 5). -/
def Obligations.StartResync : Prop :=
  ∀ s : State, Commanded s →
    (s.part.role ≠ .primary → exec .startResync s = .next (responded .badState [] s)) ∧
    (s.part.role = .primary → ∃ t, exec .startResync s = .next (responded .ok [] t) ∧
      RestartedStream .command (nextGeneration s.journal.generation) s t ∧ RestartedSession s t ∧
      t.part = s.part ∧ t.mem = s.mem ∧ t.session.rejectRestarts = s.session.rejectRestarts ∧
      t.table.commitPending = s.table.commitPending ∧
      (∀ w, s.host.state = .stalled w → t.host = { s.host with state := .request (.write w) false false } ∧
        t.capture.stallTimer = none) ∧
      (s.journal.entries.any (fun e => e.held) = true →
        t.hold = { holding := false, timer := none, last := .abandoned } ∧ flagSet .syncLate t = true ∧
          counterValue .syncLate t = min (counterValue .syncLate s + 1) 65535))

/-! ## Host port and memory port -/

/-- A host transaction is taken only by an IDLE host port; with the memory port BUSY it waits in REQUEST; a READ on a
free port is granted at once, unclassified. At the end of a host access a read returns the four bytes of its word, a
write completes as done or is HELD while its hold runs; the memory port then goes to the engine that waits, an apply
operation or a copy burst, or is IDLE (R42, R43, R46, R47, R48, R82, R149, R165). -/
def Obligations.HostAccesses : Prop :=
  (∀ (s : State) (t : HostTxn), s.inReset = false →
    (s.host.state ≠ .idle → exec (.hostTransaction t) s = .next s) ∧
    (s.host.state = .idle → s.port.holder ≠ .idle → exec (.hostTransaction t) s =
      .next (s.setHost { state := .request t true false, completion := none })) ∧
    (∀ a, HostFree s → exec (.hostTransaction (.read a)) s =
      .next ((s.setHost { state := .access (.read a), completion := none }).setPort
        { holder := .hostRead, lastGrant := .host }))) ∧
  (∀ s : State, s.inReset = false →
    (∀ a, s.port.holder = .hostRead → s.host.state = .access (.read a) →
      ∃ t d, exec .hostReadCompletion s = .next t ∧ t.host = { state := .idle, completion := some (.readData d) } ∧
        t = { s with host := t.host, port := t.port, mem := t.mem, applyq := t.applyq, copy := t.copy } ∧
        t.mem.cells = s.mem.cells ∧
        (s.mem.fits a.toNat = true → ∀ k < 4, wordByte d k = s.mem.byte a.toNat k) ∧
        (engineRequests s = false → t.port = { s.port with holder := .idle } ∧ t.applyq = s.applyq ∧ t.copy = s.copy) ∧
        (∀ e, s.applyq.engine = .waiting e → t.port = { holder := .apply, lastGrant := .engine } ∧
          t.applyq = { s.applyq with engine := .writing e } ∧ t.copy = s.copy) ∧
        (∀ i c, s.copy.engine = .waiting i c → (∀ e, s.applyq.engine ≠ .waiting e) →
          t.port = { holder := .burst, lastGrant := .engine } ∧ t.applyq = s.applyq ∧
          t.copy = { s.copy with engine := .reading i c false })) ∧
    (∀ w, s.port.holder = .hostWrite → s.host.state = .access (.write w) →
      ∃ t, exec .hostWriteCompletion s = .next t ∧
        t = { s with host := t.host, port := t.port, applyq := t.applyq, copy := t.copy } ∧
        (s.hold.holding = true → t.host.state = .held w) ∧
        (s.hold.holding = false → t.host = { state := .idle, completion := some .writeDone } ∧ werrActive t = false) ∧
        (engineRequests s = false → t.port = { s.port with holder := .idle } ∧ t.applyq = s.applyq ∧ t.copy = s.copy) ∧
        (∀ e, s.applyq.engine = .waiting e → t.port = { holder := .apply, lastGrant := .engine } ∧
          t.applyq = { s.applyq with engine := .writing e } ∧ t.copy = s.copy) ∧
        (∀ i c, s.copy.engine = .waiting i c → (∀ e, s.applyq.engine ≠ .waiting e) →
          t.port = { holder := .burst, lastGrant := .engine } ∧ t.applyq = s.applyq ∧
          t.copy = { s.copy with engine := .reading i c false })))

/-- A plain write is performed at memory under its mask and is not captured: on a DETACHED part, with mask 0, outside
every window, and on a PRIMARY in a PENDING window or at or after the cursor. The last of these is reported degraded
when the window is SYNC (R49, R50, R51, R89). -/
def Obligations.PlainWritePerformed : Prop :=
  ∀ (s : State) (w : HostWrite), HostFree s → bankValid s.table.active s.params.memPages = true →
    s.mem.wf → s.mem.fits w.addr.toNat = true →
    ((s.part.role = .detached ∨ w.mask = 0#4 ∨ ∀ i : WindowId, ¬FallsIn s w.addr.toNat i) →
      ∃ m, exec (.hostTransaction (.write w)) s = .next (writeGranted w m s) ∧
        Wrote s.mem m w.addr.toNat w.mask w.data) ∧
    (∀ i : WindowId, PlainAt s w.addr.toNat i → w.mask ≠ 0#4 →
      ∃ m, Wrote s.mem m w.addr.toNat w.mask w.data ∧
        (s.table.active[i].mode = .async →
          exec (.hostTransaction (.write w)) s = .next (writeGranted w m s)) ∧
        (s.table.active[i].mode = .sync →
          exec (.hostTransaction (.write w)) s =
            .next (count .syncDegraded (raise .syncDegraded (writeGranted w m s)))))

/-- On a SECONDARY, promotion pending or not and whatever the session, a host write with mask other than 0 into a
present window is refused at its grant: nothing is written, the write completes with WERR, WRITE_BLOCKED is raised and
counted, the grant counts as a HOST grant. Reads of the same address pass (R54). -/
def Obligations.WriteRefused : Prop :=
  ∀ (s : State) (w : HostWrite) (i : WindowId), HostFree s → s.part.role = .secondary →
    FallsIn s w.addr.toNat i → w.mask ≠ 0#4 →
    ∃ t, exec (.hostTransaction (.write w)) s = .next t ∧
      t = count .writesBlocked (raise .writeBlocked
        ((s.setHost { state := .idle, completion := some .writeRefused }).setPort
          { holder := .idle, lastGrant := .host })) ∧
      werrActive t = true ∧ t.mem = s.mem ∧
      exec (.hostTransaction (.read w.addr)) s =
        .next ((s.setHost { state := .access (.read w.addr), completion := none }).setPort
          { holder := .hostRead, lastGrant := .host })

/-- A captured write into an ASYNC window is performed at memory and enters the journal within its grant: merged into
the OPEN entry when the tests allow it, even with the journal full; otherwise opened as a new entry of one run and one
word, the OPEN entry sealed first, and the seal age timer started (R9, R14, R52, R62, R66, R67, R69). -/
def Obligations.CaptureIntoJournal : Prop :=
  ∀ (s : State) (w : HostWrite) (i : WindowId), HostFree s → bankValid s.table.active s.params.memPages = true →
    CapturedAt s w.addr.toNat i → w.mask ≠ 0#4 → s.table.active[i].mode = .async → s.mem.wf →
    s.mem.fits w.addr.toNat = true →
    ∃ m, Wrote s.mem m w.addr.toNat w.mask w.data ∧
      (∀ rs rs', s.journal.openRuns = some rs → coalesce rs i w = some rs' →
        exec (.hostTransaction (.write w)) s = .next ((writeGranted w m s).setJournal { s.journal with
          entries := s.journal.entries.dropLast ++
            (s.journal.entries.getLast?.map (fun e => { e with content := .write rs' })).toList })) ∧
      (s.journal.entries.length < 64 →
        (s.journal.openRuns = none ∨ ∃ rs, s.journal.openRuns = some rs ∧ coalesce rs i w = none) →
        ∃ j, exec (.hostTransaction (.write w)) s = .next (((writeGranted w m s).setJournal j).setCapture
            { s.capture with sealTimer := some s.params.sealAge }) ∧
          j = { s.journal with
            entries := (if s.journal.openRuns = none then s.journal.entries else s.journal.entries.map Entry.seal) ++
              [newEntry s.journal.nextSeq (.write [oneWord i w]) .opened],
            nextSeq := s.journal.nextSeq + 1#12 })

/-- The four tests of a captured write against the OPEN entry's runs, in their order: inside a run it is merged in
place; at the end of a run of its window it extends that run while the entry holds fewer than 16 words; with fewer
than 4 runs and 16 words it adds a run of one word; otherwise it is not taken (R62, R63, R64, R65, R66). -/
def Obligations.CoalescingTests : Prop :=
  ∀ (rs : List Run) (id : WindowId) (w : HostWrite), (∀ r ∈ rs, r.words ≠ []) →
    ((∃ r ∈ rs, r.start ≤ w.addr.toNat ∧ w.addr.toNat < r.start + r.words.length) →
      ∃ rs', coalesce rs id w = some rs' ∧
        rs'.map (fun r => (r.window, r.start, r.words.length)) =
          rs.map (fun r => (r.window, r.start, r.words.length))) ∧
    ((∀ r ∈ rs, ¬(r.start ≤ w.addr.toNat ∧ w.addr.toNat < r.start + r.words.length)) →
      (∀ (before after : List Run) (r : Run), rs = before ++ r :: after → r.window = id.val →
        r.start + r.words.length = w.addr.toNat →
        (∀ q ∈ before, ¬(q.window = id.val ∧ q.start + q.words.length = w.addr.toNat)) → wordCount rs < 16 →
        coalesce rs id w = some (before ++ { r with words := r.words ++ [firstStored w] } :: after)) ∧
      ((wordCount rs < 16 → ∀ r ∈ rs, ¬(r.window = id.val ∧ r.start + r.words.length = w.addr.toNat)) →
        (rs.length < 4 → wordCount rs < 16 → coalesce rs id w = some (rs ++ [oneWord id w])) ∧
        (4 ≤ rs.length ∨ 16 ≤ wordCount rs → coalesce rs id w = none)))

/-- Coalescing keeps what the secondary's memory becomes: writing the runs that a captured write leaves in the OPEN
entry gives, byte for byte, what writing the runs before it and then the write itself gives (R63, with R2, R64 and
R65). -/
def Obligations.CoalescingKeepsMemory : Prop :=
  ∀ (m : Memory) (rs rs' : List Run) (id : WindowId) (w : HostWrite), m.wf →
    rs.Pairwise (fun q r => q.start + q.words.length ≤ r.start ∨ r.start + r.words.length ≤ q.start) →
    (∀ r ∈ rs, ∀ k < r.words.length, m.fits (r.start + k) = true) → m.fits w.addr.toNat = true →
    coalesce rs id w = some rs' →
    ∀ a k : Nat, k < 4 → (m.writeAll (Content.write rs').accesses).byte a k =
      if a = w.addr.toNat ∧ maskBit w.mask k = true then wordByte w.data k
      else (m.writeAll (Content.write rs).accesses).byte a k

/-- A captured write that needs a new entry and finds the journal full stalls at its grant: not performed, not in any
entry, HOST_STALL raised and counted, the stall timer as STALL_TIMEOUT has it; with code 0 the stream restarts with
reason STALL and the write is performed plainly within the same event (R71, R72, R74). -/
def Obligations.FullJournalStalls : Prop :=
  ∀ (s : State) (w : HostWrite) (i : WindowId), HostFree s → bankValid s.table.active s.params.memPages = true →
    CapturedAt s w.addr.toNat i → w.mask ≠ 0#4 → s.journal.entries.length = 64 →
    (s.journal.openRuns = none ∨ ∃ rs, s.journal.openRuns = some rs ∧ coalesce rs i w = none) →
    (s.params.stallTimeout ≠ 0 →
      ∃ t, exec (.hostTransaction (.write w)) s = .next t ∧
        t = { s with host := { state := .stalled w, completion := none },
                     port := { holder := .idle, lastGrant := .host }, events := (raise .hostStall s).events,
                     counters := (count .hostStalls s).counters, journal := t.journal, capture := t.capture } ∧
        (s.journal.openRuns = none → t.journal = s.journal) ∧
        (s.journal.openRuns ≠ none →
          t.journal = { s.journal with entries := s.journal.entries.map Entry.seal } ∧ t.capture.sealTimer = none) ∧
        (s.params.stallTimeout ≤ 254 → t.capture.stallTimer = some (100 * s.params.stallTimeout)) ∧
        (s.params.stallTimeout = 255 → t.capture.stallTimer = none)) ∧
    (s.params.stallTimeout = 0 → s.mem.wf → s.mem.fits w.addr.toNat = true →
      ∃ t, exec (.hostTransaction (.write w)) s = .next t ∧
        RestartedStream .stall (nextGeneration s.journal.generation) s t ∧ RestartedSession s t ∧
        t.host = { state := .access (.write w), completion := none } ∧
        t.port = { holder := .hostWrite, lastGrant := .host } ∧ Wrote s.mem t.mem w.addr.toNat w.mask w.data ∧
        flagSet .hostStall t = true ∧ counterValue .hostStalls t = min (counterValue .hostStalls s + 1) 65535)

/-- A captured write into a SYNC window is sealed within its grant, in the OPEN entry it has been merged into, the
journal full or not, or in the entry it has opened. In UP the hold is taken: the entry marked, HOLDING, the hold timer
started. In any other session state it is reported degraded and its entry carries no mark (R62, R68, R81, R89). -/
def Obligations.SyncCaptureHeld : Prop :=
  ∀ (s : State) (w : HostWrite) (i : WindowId) (c : Content), HostFree s →
    bankValid s.table.active s.params.memPages = true → CapturedAt s w.addr.toNat i → w.mask ≠ 0#4 →
    s.table.active[i].mode = .sync → s.mem.wf → s.mem.fits w.addr.toNat = true →
    (∀ merged : Bool,
      (merged = true → ∃ rs rs', s.journal.openRuns = some rs ∧ coalesce rs i w = some rs' ∧ c = .write rs') →
      (merged = false → c = .write [oneWord i w] ∧ s.journal.entries.length < 64 ∧
        (s.journal.openRuns = none ∨ ∃ rs, s.journal.openRuns = some rs ∧ coalesce rs i w = none)) →
      ∃ t, exec (.hostTransaction (.write w)) s = .next t ∧ Wrote s.mem t.mem w.addr.toNat w.mask w.data ∧
        t.host = { state := .access (.write w), completion := none } ∧
        t.port = { holder := .hostWrite, lastGrant := .host } ∧ t.capture = { s.capture with sealTimer := none } ∧
        (merged = true → t.journal = { s.journal with
          entries := s.journal.entries.dropLast.map Entry.seal ++ (s.journal.entries.getLast?.map (fun e =>
            { e with content := c, state := .ready, held := decide (s.session.state = .up) || e.held })).toList }) ∧
        (merged = false → t.journal = { s.journal with
          entries := s.journal.entries.map Entry.seal ++
            [{ newEntry s.journal.nextSeq c .ready with held := decide (s.session.state = .up) }],
          nextSeq := s.journal.nextSeq + 1#12 }) ∧
        (s.session.state = .up →
          t.hold = { s.hold with holding := true, timer := some (100 * s.params.holdTimeout) } ∧
            t.events = s.events ∧ t.counters = s.counters) ∧
        (s.session.state ≠ .up → t.hold = s.hold ∧ raisedAndCounted .syncDegraded .syncDegraded s t))

/-- The hold timer's expiry ends the hold TIMEOUT: the mark is cleared and the entry stays in its place, state and
content, SYNC_LATE is raised and counted, and the write completes as done, at once when it is HELD and at the end of
its access otherwise. A stopped timer does not expire (R84; log entry 4 for the last). -/
def Obligations.HoldTimesOut : Prop :=
  ∀ s : State, s.inReset = false →
    (s.hold.timer = none → exec .holdTimerExpiry s = .next s) ∧
    (s.hold.holding = true → s.hold.timer ≠ none →
      ∃ t, exec .holdTimerExpiry s = .next t ∧
        t = { s with hold := { holding := false, timer := none, last := .timeout },
                     journal := { s.journal with
                       entries := s.journal.entries.map (fun e => { e with held := false }) },
                     events := (raise .syncLate s).events, counters := (count .syncLate s).counters,
                     host := t.host } ∧
        (∀ w, s.host.state = .held w → t.host = { state := .idle, completion := some .writeDone }) ∧
        ((∀ w, s.host.state ≠ .held w) → t.host = s.host) ∧
        (∀ w, s.host.state = .access (.write w) → s.port.holder = .hostWrite →
          ∃ u, exec .hostWriteCompletion t = .next u ∧
            u.host = { state := .idle, completion := some .writeDone }))

/-- The stall timer's expiry restarts the stream with reason STALL and ends the stall; the write then requests the
memory port afresh, and what it meets there is what a new write would meet; in its window, now PENDING, it is
performed plainly. A stopped timer does not expire (R53, R73, R74; log entry 5, and log entry 4 for the last). -/
def Obligations.StallEnds : Prop :=
  (∀ (s : State) (w : HostWrite), s.inReset = false → s.capture.stallTimer ≠ none → s.host.state = .stalled w →
    ∃ t, exec .stallTimerExpiry s = .next t ∧
      RestartedStream .stall (nextGeneration s.journal.generation) s t ∧ RestartedSession s t ∧
      t.host = { s.host with state := .request (.write w) false false } ∧ t.capture.stallTimer = none ∧
      t.mem = s.mem ∧ t.part = s.part) ∧
  (∀ s : State, s.inReset = false → s.capture.stallTimer = none → exec .stallTimerExpiry s = .next s) ∧
  (∀ (s : State) (w : HostWrite), s.inReset = false →
    s.host = { state := .request (.write w) false false, completion := none } →
    exec .stalledWriteRepresentation s =
      exec (.hostTransaction (.write w)) (s.setHost { state := .idle, completion := none })) ∧
  (∀ (s : State) (w : HostWrite) (i : WindowId), s.inReset = false →
    s.host = { state := .request (.write w) false false, completion := none } → s.port.holder = .idle →
    engineRequests s = false → bankValid s.table.active s.params.memPages = true → s.part.role = .primary →
    FallsIn s w.addr.toNat i → s.copy.states[i] = .pending → s.table.active[i].mode = .async → w.mask ≠ 0#4 →
    s.mem.wf → s.mem.fits w.addr.toNat = true →
    ∃ m, exec .stalledWriteRepresentation s = .next (writeGranted w m s) ∧
      Wrote s.mem m w.addr.toNat w.mask w.data)

/-! ## Journal, transmitter, delivery -/

/-- The seal age timer's expiry seals the OPEN entry; the HELLO timer's expiry asks for a HELLO and restarts in SEEK
and stops in UP; the status interval timer's expiry pends a LINK frame and restarts. A stopped timer does not expire
(R14, R114, R143; log entry 4 for the last). -/
def Obligations.TimersExpire : Prop :=
  ∀ s : State, s.inReset = false →
    (s.capture.sealTimer = none → exec .sealAgeExpiry s = .next s) ∧
    (s.capture.sealTimer ≠ none → exec .sealAgeExpiry s =
      .next ((s.setJournal { s.journal with entries := s.journal.entries.map (fun e =>
          if e.state = .opened then { e with state := .ready } else e) }).setCapture
        { s.capture with sealTimer := none })) ∧
    (s.session.helloTimer = none → exec .helloTimerExpiry s = .next s) ∧
    (s.session.helloTimer ≠ none → s.session.state = .seek → exec .helloTimerExpiry s =
      .next ((s.setTx { s.tx with helloDue := true }).setSession
        { s.session with helloTimer := some (100 * s.params.helloInterval) })) ∧
    (s.session.helloTimer ≠ none → s.session.state = .up → exec .helloTimerExpiry s =
      .next (s.setSession { s.session with helloTimer := none })) ∧
    (s.acker.statusTimer = none → exec .statusIntervalExpiry s = .next s) ∧
    (s.acker.statusTimer ≠ none → exec .statusIntervalExpiry s =
      .next (s.setAcker { s.acker with linkPending := true, statusTimer := some (5 * s.params.statusInterval) }))

/-- An IDLE transmitter starts the first due frame in the order BYE, HELLO, LINK, DATA with its fields as they stand,
and the frame is no longer due; a SENDING transmitter starts none (R97, R98, R106, R107, R108, R133). -/
def Obligations.FrameStartOrder : Prop :=
  ∀ s : State, s.inReset = false →
    (s.tx.sending ≠ none → exec .frameStart s = .next s) ∧
    (∀ r, s.tx.sending = none → s.tx.byeDue = some r → exec .frameStart s = .next (s.setTx { s.tx with
      sending := some { kind := .bye r, bytes := (Frame.bye r).bytes }, byeDue := none })) ∧
    (s.tx.sending = none → s.tx.byeDue = none → s.tx.helloDue = true →
      (s.session.state = .seek ∨ s.session.state = .up) →
      ∃ f : HelloFrame, exec .frameStart s = .next (s.setTx { s.tx with
          sending := some { kind := .hello, bytes := (Frame.hello f).bytes }, helloDue := false }) ∧
        f.revision = 0x01#8 ∧ f.role = s.part.role ∧ f.seen = s.session.seen ∧
        (s.part.role = .primary → f.fresh = s.journal.fresh ∧ f.consistent = false ∧ f.reject = false ∧
          f.generation = s.journal.generation ∧ f.oldest = s.journal.oldest ∧ f.next = s.journal.nextSeq ∧
          f.limit = 0#12) ∧
        (s.part.role = .secondary → f.fresh = false ∧ f.consistent = s.applyq.consistent ∧
          f.reject = s.applyq.reject ∧ f.generation = s.applyq.streamGeneration ∧ f.oldest = s.applyq.expected ∧
          f.next = s.applyq.expected ∧ f.limit = s.applyq.limit)) ∧
    (s.tx.sending = none → s.tx.byeDue = none → s.tx.helloDue = false → s.session.state = .up →
      s.part.role = .secondary → s.acker.linkPending = true →
      ∃ f : LinkFrame, exec .frameStart s = .next ((s.setAcker
          { s.acker with linkPending := false, nakMark := false }).setTx
          { s.tx with sending := some { kind := .link, bytes := (Frame.link f).bytes } }) ∧
        f = { ack := s.applyq.expected, limit := s.applyq.limit, nak := s.acker.nakMark, reject := s.applyq.reject }) ∧
    (∀ e, s.tx.sending = none → s.tx.byeDue = none → s.tx.helloDue = false → s.session.state = .up →
      s.part.role = .primary → s.journal.entryAt s.journal.sendPoint = some e → e.state = .ready →
      seqPrecedes s.journal.sendPoint s.sender.peerLimit = true →
      ∃ f : DataFrame, exec .frameStart s = .next (s.setTx
          { s.tx with sending := some { kind := .data e.seq, bytes := (Frame.data f).bytes } }) ∧
        f = { seq := e.seq, content := e.content }) ∧
    (s.tx.sending = none → s.tx.byeDue = none → s.tx.helloDue = false → s.session.state = .up →
      s.part.role = .primary → seqPrecedes s.journal.sendPoint s.sender.peerLimit = false →
      exec .frameStart s = .next s)

/-- The ENDs of frames: a DATA frame makes its entry INFLIGHT, advances the send point, starts a stopped ack timer and
lets a held rewind be taken; HELLO and LINK have no effect beyond being sent; BYE(DISABLED) takes the session to OFF;
BYE(FAULT) leaves it in FAULT. The lane carries START, the frame's data bytes in order and END, and FILL after it (R8,
R17, R93, R108, R123, R125, R136). -/
def Obligations.FrameEnds : Prop :=
  ∀ (s : State) (bytes : List Byte), s.inReset = false →
    (JournalSound s → s.tx.sending = some { kind := .data s.journal.sendPoint, bytes := bytes } →
      ∃ t, exec .dataFrameEnd s = .next t ∧
        t = { s with tx := { s.tx with sending := none, lastEnding := .ended }, journal := t.journal,
                     sender := t.sender } ∧
        (s.sender.ackTimer = none → t.sender = { s.sender with ackTimer := some (10 * s.params.ackTimeout) }) ∧
        (s.sender.ackTimer ≠ none → t.sender = s.sender) ∧
        (s.journal.heldRewind = none → t.journal = { s.journal with
          sendPoint := s.journal.sendPoint + 1#12
          entries := s.journal.entries.map (fun e =>
            if e.seq = s.journal.sendPoint then { e with state := .inflight } else e) }) ∧
        (∀ m, s.journal.heldRewind = some m → t.journal.heldRewind = none ∧
          t.journal.sendPoint = (if seqPrecedes m s.journal.oldest = true then s.journal.oldest else m) ∧
          ∀ e ∈ t.journal.entries, e.state = .inflight → seqPrecedes e.seq t.journal.sendPoint = true)) ∧
    (∀ k, k = TxKind.hello ∨ k = TxKind.link → s.tx.sending = some { kind := k, bytes := bytes } →
      exec .frameEnd s = .next (s.setTx { s.tx with sending := none, lastEnding := .ended })) ∧
    (s.session.state = .closing → s.tx.sending = some { kind := .bye .disabled, bytes := bytes } →
      ∃ t, exec .byeDisabledEnd s = .next t ∧ t.session = { s.session with state := .off, helloTimer := none } ∧
        t.tx = { s.tx with sending := none, byeDue := none, helloDue := false, lastEnding := .ended } ∧
        t.rx = { s.rx with framing := .hunt, good := [] } ∧
        t = { s with session := t.session, tx := t.tx, rx := t.rx }) ∧
    (s.session.state = .fault → s.tx.sending = some { kind := .bye .fault, bytes := bytes } →
      exec .byeFaultEnd s = .next (s.setTx { s.tx with sending := none, lastEnding := .ended })) ∧
    (∀ f, s.tx.sending = some f → transmitLane s = .frame ([.start] ++ f.bytes.map Symbol.data ++ [.stop])) ∧
    (s.tx.sending = none → s.tx.lastEnding = .ended → transmitLane s = .fill)

/-- A LINK frame without REJECT at a primary in UP: out of range it is only counted; in range it sets peer_limit,
releases every entry before its ack, with the results handed on (retry count, ack timer, hold, reject-restart count),
and with NAK rewinds the send point to its ack, held back while a DATA frame is in transmission (R15, R16, R83, R134,
R135, R136; that a write whose stall has ended does not yet stand at the arbiter is log entry 5, and that a rewind
takes the place of one already held is log entry 20). -/
def Obligations.LinkFrameTaken : Prop :=
  ∀ (s : State) (f : LinkFrame), Arriving s → s.part.role = .primary →
    s.session.state = .up → f.reject = false → JournalSound s →
    ((seqLiesIn f.ack s.journal.oldest s.journal.sendPoint = false ∨ 32 < (f.limit - f.ack).toNat) →
      exec (.linkReceived f) s = .next (count .rxFormatErrors s)) ∧
    (∀ gone kept : List Entry, seqLiesIn f.ack s.journal.oldest s.journal.sendPoint = true →
      (f.limit - f.ack).toNat ≤ 32 →
      gone = s.journal.entries.filter (fun e => seqPrecedes e.seq f.ack) →
      kept = s.journal.entries.filter (fun e => !seqPrecedes e.seq f.ack) →
      ∃ t, exec (.linkReceived f) s = .next t ∧
        t = { s with sender := t.sender, journal := t.journal, hold := t.hold, host := t.host, capture := t.capture,
                     session := t.session, counters := t.counters } ∧
        t.sender.peerLimit = f.limit ∧
        (f.nak = false → t.counters = s.counters ∧ t.journal = { s.journal with entries := kept }) ∧
        (f.nak = true → t.counters = (count .naksReceived s).counters ∧
          (sendingData s = true → t.journal = { s.journal with entries := kept, heldRewind := some f.ack }) ∧
          (sendingData s = false → t.journal = { s.journal with
            sendPoint := f.ack
            entries := kept.map (fun e => if e.state = .inflight then { e with state := .ready } else e) })) ∧
        (gone = [] → t.sender = { s.sender with peerLimit := f.limit } ∧ t.hold = s.hold ∧ t.host = s.host ∧
          t.session = s.session ∧ t.capture = s.capture) ∧
        (gone ≠ [] → t.sender.retryCount = 0 ∧
          t.sender.ackTimer = (if kept.any (fun e => decide (e.state = .inflight))
            then some (10 * s.params.ackTimeout) else none) ∧
          (∀ w, s.host.state = .stalled w → t.host = { s.host with state := .request (.write w) false false } ∧
            t.capture.stallTimer = none) ∧
          (gone.any (fun e => e.held) = true → t.hold = { holding := false, timer := none, last := .released } ∧
            ∀ w, s.host.state = .held w → t.host = { state := .idle, completion := some .writeDone }) ∧
          (gone.any (fun e => e.held) = false → t.hold = s.hold) ∧
          (gone.any Entry.isSynced = true → t.session = { s.session with rejectRestarts := 0 }) ∧
          (gone.any Entry.isSynced = false → t.session = s.session)))

/-- A LINK frame with REJECT at a primary in UP: below a reject-restart count of 3 the count rises and the stream
restarts with reason PEER_REJECT; at 3 the session enters FAULT with cause REJECT_LIMIT and loss reason FAULT, without
a restart; a rewind held behind the DATA frame that it aborts is taken then (R17, R121, R125, R126; log entry 29 for the
held rewind). -/
def Obligations.PeerRejects : Prop :=
  ∀ (s : State) (f : LinkFrame), Arriving s → s.part.role = .primary →
    s.session.state = .up → f.reject = true →
    (s.session.rejectRestarts < 3 → ∃ t, exec (.linkReceived f) s = .next t ∧
      RestartedStream .peerReject (nextGeneration s.journal.generation) s t ∧ RestartedSession s t ∧
      t.session.rejectRestarts = s.session.rejectRestarts + 1 ∧ t.mem = s.mem) ∧
    (s.session.rejectRestarts = 3 → ∃ t, exec (.linkReceived f) s = .next t ∧
      t.session = { s.session with state := .fault, faultCause := .rejectLimit, lastLoss := .fault,
                                   helloTimer := none } ∧
      flagSet .linkFault t = true ∧ flagSet .linkLost t = true ∧ t.counters = (count .sessionLosses s).counters ∧
      Aborted s t ∧ t.tx.byeDue = some .fault ∧ t.tx.helloDue = false ∧ t.copy.states = s.copy.states ∧
      (s.journal.heldRewind = none → t.journal = s.journal) ∧
      (∀ m, s.tx.sending ≠ none → s.journal.heldRewind = some m → HeldRewindTaken m s t) ∧
      t = { s with session := t.session, events := t.events, counters := t.counters, tx := t.tx, rx := t.rx,
                   sender := t.sender, acker := t.acker, copy := t.copy, journal := t.journal })

/-- The ack timer's expiry raises the retry count: below RETRY_LIMIT the send point goes back to oldest with every
INFLIGHT entry READY, or the rewind is held behind a DATA frame, the timer restarts and RETRANSMIT_TIMEOUTS counts; at
RETRY_LIMIT the session is lost with reason RETRY_LIMIT and nothing is rewound. A good BYE of either reason and the
silence timer's expiry take the session from UP to SEEK with every effect of a loss; a rewind held behind the DATA
frame that a loss aborts is taken then. A BYE in SEEK, and the expiry of a stopped timer, change nothing (R17, R105,
R109, R121, R122, R137; log entry 29 for the held rewind, log entry 4 for the stopped timers). -/
def Obligations.AckTimerAndLosses : Prop :=
  (∀ s : State, s.inReset = false →
    (s.sender.ackTimer = none → exec .ackTimerExpiry s = .next s) ∧
    (s.sender.ackTimer ≠ none → s.sender.retryCount + 1 < s.params.retryLimit → JournalSound s →
      ∃ j, exec .ackTimerExpiry s = .next ((((s.setJournal j).setSender { s.sender with
            retryCount := s.sender.retryCount + 1, ackTimer := some (10 * s.params.ackTimeout) }).setCounters
            (count .retransmitTimeouts s).counters)) ∧
        (sendingData s = true → j = { s.journal with heldRewind := some s.journal.oldest }) ∧
        (sendingData s = false → j = { s.journal with
          sendPoint := s.journal.oldest
          entries := s.journal.entries.map (fun e =>
            if e.state = .inflight then { e with state := .ready } else e) })) ∧
    (s.sender.ackTimer ≠ none → s.params.retryLimit ≤ s.sender.retryCount + 1 → s.session.state = .up →
      ∃ t, exec .ackTimerExpiry s = .next t ∧
        LostSession .retryLimit (s.setSender { s.sender with retryCount := s.sender.retryCount + 1 }) t)) ∧
  (∀ (s : State) (r : ByeReason), Arriving s →
    (s.session.state = .up → ∃ t, exec (.byeReceived r) s = .next t ∧ LostSession .peerBye s t) ∧
    (s.session.state = .seek → exec (.byeReceived r) s = .next s)) ∧
  (∀ s : State, s.inReset = false →
    (s.rx.silenceTimer ≠ none → ∃ t, exec .silenceTimerExpiry s = .next t ∧ LostSession .silence s t) ∧
    (s.rx.silenceTimer = none → exec .silenceTimerExpiry s = .next s))

/-! ## Receiver -/

/-- One symbol by the framing state: every symbol restarts a running silence timer; START begins a frame, discarding a
partial one; data fills the buffer up to 112 bytes; ABORT, FILL and an invalid symbol discard; END checks, and a good
frame waits for the command that hands it to its block. In OFF and while unaligned nothing changes. The receiver aligns
on either cause. A received frame is handed on in its turn, with the effect its command has alone, and dropped in OFF,
CLOSING and FAULT; a frame that is not the oldest, and one at an unaligned receiver, is not taken (R99, R100, R101, R103,
R105, R196; the list of good frames is log entry 6, the operands of the alignment are log entry 27). -/
def Obligations.SymbolTaken : Prop :=
  (∀ (s : State) (c : Character), s.inReset = false → (s.rx.aligned = false ∨ s.session.state = .off) →
    exec (.symbolReceived c) s = .next s) ∧
  (∀ (s u : State) (c : Character), s.inReset = false → s.rx.aligned = true → s.session.state ≠ .off →
    u = (if s.rx.silenceTimer = none then s
      else s.setRx { s.rx with silenceTimer := some (100 * s.params.silenceTimeout) }) →
    (s.rx.framing = .hunt → decodeCharacter c = .start →
      exec (.symbolReceived c) s = .next (u.setRx { u.rx with framing := .frame [] })) ∧
    (s.rx.framing = .hunt → decodeCharacter c ≠ .start → exec (.symbolReceived c) s = .next u) ∧
    (∀ buffer, s.rx.framing = .frame buffer →
      (decodeCharacter c = .start → exec (.symbolReceived c) s =
        .next (count .rxFormatErrors (u.setRx { u.rx with framing := .frame [] }))) ∧
      (∀ b, decodeCharacter c = .data b → buffer.length < 112 → exec (.symbolReceived c) s =
        .next (u.setRx { u.rx with framing := .frame (buffer ++ [b]) })) ∧
      (∀ b, decodeCharacter c = .data b → 112 ≤ buffer.length → exec (.symbolReceived c) s =
        .next (count .rxFormatErrors (u.setRx { u.rx with framing := .hunt }))) ∧
      (decodeCharacter c = .abort → exec (.symbolReceived c) s =
        .next (count .rxAborts (u.setRx { u.rx with framing := .hunt }))) ∧
      (decodeCharacter c = .fill ∨ decodeCharacter c = .invalid → exec (.symbolReceived c) s =
        .next (count .rxFormatErrors (u.setRx { u.rx with framing := .hunt }))) ∧
      (decodeCharacter c = .stop →
        (checkFrame s.part.role buffer = .crcFailure → exec (.symbolReceived c) s =
          .next (count .rxCrcErrors (u.setRx { u.rx with framing := .hunt }))) ∧
        (checkFrame s.part.role buffer ≠ .crcFailure → (∀ f, checkFrame s.part.role buffer ≠ .good f) →
          exec (.symbolReceived c) s = .next (count .rxFormatErrors (u.setRx { u.rx with framing := .hunt }))) ∧
        (∀ f, checkFrame s.part.role buffer = .good f →
          exec (.symbolReceived c) s = .next (u.setRx { u.rx with
            framing := .hunt
            good := if s.session.state = .seek ∨ s.session.state = .up then s.rx.good ++ [f] else s.rx.good }))))) ∧
  (∀ (s : State) (n : Nat) (seen : List Character), s.inReset = false →
    (12 ≤ n → exec (.characterAlignment (.ones n)) s = .next (s.setRx { s.rx with aligned := true })) ∧
    (n < 12 → exec (.characterAlignment (.ones n)) s = .next s) ∧
    ((seen.length = 16 ∧ (∀ c ∈ seen, charBit c 0 = false ∧ decodeCharacter c ≠ .invalid) ∧
        ∃ c ∈ seen, charBit c 1 = true) →
      exec (.characterAlignment (.characters seen)) s = .next (s.setRx { s.rx with aligned := true }))) ∧
  (∀ (s : State) (f g : Frame) (rest : List Frame), s.inReset = false → f.wellFormed = true → s.rx.good = g :: rest →
    (g ≠ f → exec (received f) s = .next s) ∧
    (g = f → (s.session.state = .seek ∨ s.session.state = .up) →
      ∃ t, exec (received f) (s.setRx { s.rx with aligned := true, good := [] }) = .next t ∧
        exec (received f) s = .next (t.setRx { t.rx with aligned := s.rx.aligned, good := rest })) ∧
    (g = f → s.session.state ≠ .seek → s.session.state ≠ .up →
      exec (received f) s = .next (s.setRx { s.rx with good := rest }))) ∧
  (∀ (s : State) (f : Frame), s.inReset = false → f.wellFormed = true → s.rx.good = [] →
    (s.rx.aligned = false ∨ (s.session.state ≠ .seek ∧ s.session.state ≠ .up)) → exec (received f) s = .next s)

/-- A HELLO in SEEK: one of the part's own role faults with cause ROLE; a HELLO the primary cannot accept restarts the
stream with reason JOIN when the journal is not fresh and is ignored when it is; a secondary ignores one it cannot
resume that is not fresh and adopts one that is; an accepted HELLO with seen 0 sets seen and leaves the session in
SEEK (R115, R116, R117, R118, R125, R159). -/
def Obligations.HelloJudgedInSeek : Prop :=
  ∀ (s : State) (f : HelloFrame), Arriving s → s.session.state = .seek →
    f.role ≠ .detached → f.revision = 0x01#8 →
    (f.role = s.part.role → ∃ t, exec (.helloReceived f) s = .next t ∧
      t = { s with session := { s.session with state := .fault, faultCause := .role, helloTimer := none },
                   events := (raise .linkFault s).events,
                   tx := { s.tx with helloDue := false, byeDue := some .fault } }) ∧
    (s.part.role = .primary → f.role = .secondary →
      (f.generation ≠ s.journal.generation ∨ seqLiesIn f.next s.journal.oldest s.journal.nextSeq = false) →
      (s.journal.fresh = true → exec (.helloReceived f) s = .next s) ∧
      (s.journal.fresh = false → ∃ t, exec (.helloReceived f) s = .next t ∧
        RestartedStream .join (nextGeneration s.journal.generation) s t ∧ RestartedSession s t)) ∧
    (s.part.role = .secondary → f.role = .primary →
      (f.generation ≠ s.applyq.streamGeneration ∨ seqLiesIn s.applyq.expected f.oldest f.next = false) →
      (f.fresh = false → exec (.helloReceived f) s = .next s) ∧
      (f.fresh = true → f.seen = false → ∃ t, exec (.helloReceived f) s = .next t ∧
        t = { s with applyq := { s.applyq with queue := [], expected := f.oldest, streamGeneration := f.generation,
                                               reject := false },
                     acker := { s.acker with nakArmed := true, nakMark := false }, session := t.session, tx := t.tx } ∧
        t.session.state = .seek ∧ t.session.seen = true)) ∧
    (Resumes f s → f.seen = false →
      (s.session.seen = true → exec (.helloReceived f) s = .next s) ∧
      (s.session.seen = false → exec (.helloReceived f) s = .next ((s.setSession { s.session with
          seen := true, helloTimer := some (100 * s.params.helloInterval) }).setTx { s.tx with helloDue := true })))

/-- An accepted HELLO with seen 1 in SEEK takes the session UP: at a primary peer_limit is the HELLO's limit, the
entries before its next field are released, with the results handed on (hold, reject-restart count, stall), and the
send point is placed there with every entry READY or OPEN; at a secondary, which may have adopted the stream of the
HELLO, a LINK frame is pended and the status interval timer starts; both start the silence timer and raise LINK_UP
(R16, R18, R83, R117, R118, R119, R128, R159; that a write whose stall has ended does not yet stand at the arbiter is log
entry 5). -/
def Obligations.EntryToUp : Prop :=
  ∀ (s : State) (f : HelloFrame), Arriving s → s.session.state = .seek → f.revision = 0x01#8 → f.seen = true →
    (s.part.role = .primary → f.role = .secondary → f.generation = s.journal.generation →
      seqLiesIn f.next s.journal.oldest s.journal.nextSeq = true → JournalSound s →
      ∃ t, exec (.helloReceived f) s = .next t ∧ t.session.state = .up ∧ t.session.seen = true ∧
        t.session.helloTimer = none ∧ t.tx.helloDue = (s.tx.helloDue || !s.session.seen) ∧
        t.sender = { peerLimit := f.limit, retryCount := 0, ackTimer := none } ∧
        t.rx = { s.rx with silenceTimer := some (100 * s.params.silenceTimeout) } ∧ flagSet .linkUp t = true ∧
        t.journal.nextSeq = s.journal.nextSeq ∧ t.journal.generation = s.journal.generation ∧
        (s.journal.hasOpen = false ∨ f.next ≠ s.journal.nextSeq → t.journal.sendPoint = f.next) ∧
        (s.journal.hasOpen = true → f.next = s.journal.nextSeq → t.journal.sendPoint = f.next - 1#12) ∧
        t.journal.entries = (s.journal.entries.filter (fun e =>
            !(seqPrecedes e.seq f.next && decide (e.state ≠ .opened)))).map (fun e =>
          if e.state = .inflight then { e with state := .ready } else e) ∧
        (∀ gone, gone = s.journal.entries.filter (fun e => seqPrecedes e.seq f.next && decide (e.state ≠ .opened)) →
          (gone = [] → t.hold = s.hold ∧ t.host = s.host ∧ t.capture = s.capture) ∧
          (gone ≠ [] → ∀ w, s.host.state = .stalled w →
            t.host = { s.host with state := .request (.write w) false false } ∧ t.capture.stallTimer = none) ∧
          (gone.any (fun e => e.held) = true → t.hold = { holding := false, timer := none, last := .released } ∧
            ∀ w, s.host.state = .held w → t.host = { state := .idle, completion := some .writeDone }) ∧
          (gone.any (fun e => e.held) = false → t.hold = s.hold) ∧
          t.session.rejectRestarts = (if gone.any Entry.isSynced = true then 0 else s.session.rejectRestarts)) ∧
        t = { s with session := t.session, tx := t.tx, rx := t.rx, sender := t.sender, journal := t.journal,
                     hold := t.hold, host := t.host, capture := t.capture, events := (raise .linkUp s).events }) ∧
    (s.part.role = .secondary → f.role = .primary → f.generation = s.applyq.streamGeneration →
      seqLiesIn s.applyq.expected f.oldest f.next = true →
      ∃ t, exec (.helloReceived f) s = .next t ∧
        t = { s with session := { s.session with state := .up, seen := true, helloTimer := none }, tx := t.tx,
                     acker := { s.acker with linkPending := true,
                                             statusTimer := some (5 * s.params.statusInterval) },
                     rx := { s.rx with silenceTimer := some (100 * s.params.silenceTimeout) },
                     events := (raise .linkUp s).events } ∧
        t.tx = { s.tx with helloDue := s.tx.helloDue || !s.session.seen }) ∧
    (s.part.role = .secondary → f.role = .primary → f.fresh = true →
      (f.generation ≠ s.applyq.streamGeneration ∨ seqLiesIn s.applyq.expected f.oldest f.next = false) →
      exec (.helloReceived f) s = .next { s with
        applyq := { s.applyq with queue := [], expected := f.oldest, streamGeneration := f.generation, reject := false }
        session := { s.session with state := .up, seen := true, helloTimer := none }
        tx := { s.tx with helloDue := s.tx.helloDue || !s.session.seen }
        acker := { linkPending := true, nakMark := false, nakArmed := true,
                   statusTimer := some (5 * s.params.statusInterval) }
        rx := { s.rx with silenceTimer := some (100 * s.params.silenceTimeout) }
        events := (raise .linkUp s).events })

/-- A HELLO in UP: accepted with seen 1 it is answered when the HELLO timer is stopped and not answered when it runs.
With seen 0, accepted or not, and with seen 1 not accepted, it takes the session to SEEK with loss reason PEER_HELLO and
is then judged as in SEEK; accepted there it sets seen again. One of the part's own role is a loss with reason FAULT and
takes it to FAULT with cause ROLE (R114, R115, R118, R120, R121, R125; that a HELLO which only adoption
would accept is not accepted in UP is log entry 25). -/
def Obligations.HelloInUp : Prop :=
  ∀ (s : State) (f : HelloFrame), Arriving s → s.session.state = .up → f.revision = 0x01#8 →
    (Resumes f s → f.seen = true → s.session.helloTimer ≠ none → exec (.helloReceived f) s = .next s) ∧
    (Resumes f s → f.seen = true → s.session.helloTimer = none → exec (.helloReceived f) s =
      .next ((s.setTx { s.tx with helloDue := true }).setSession
        { s.session with helloTimer := some (100 * s.params.helloInterval) })) ∧
    (Resumes f s → f.seen = false → ∃ t u, exec (.helloReceived f) s = .next t ∧
      LostSession .peerHello s u ∧ t = u.setSession { u.session with seen := true }) ∧
    (f.role ≠ .detached → f.role ≠ s.part.role → (f.seen = false ∨ ¬Resumes f s) →
      ∃ t u, LostSession .peerHello s u ∧ exec (.helloReceived f) u = .next t ∧ exec (.helloReceived f) s = .next t) ∧
    (f.role ≠ .detached → f.role = s.part.role → ∃ t, exec (.helloReceived f) s = .next t ∧
      t.session = { s.session with state := .fault, faultCause := .role, lastLoss := .fault, helloTimer := none } ∧
      flagSet .linkFault t = true ∧ flagSet .linkLost t = true ∧ t.counters = (count .sessionLosses s).counters ∧
      Aborted s t ∧ t.tx.byeDue = some .fault ∧ t.tx.helloDue = false)

/-- A DATA frame at a secondary in UP: at expected with a slot it is queued, expected advances, the NAK is re-armed
and a LINK frame pended; without a slot it is counted; before expected it is a duplicate, counted, a LINK frame
pended; after expected it is a gap, counted, and asks for one NAK. In SEEK it has no effect (R122, R139, R140, R141,
R142, R148). -/
def Obligations.DataFrameTaken : Prop :=
  ∀ (s : State) (f : DataFrame), Arriving s → s.part.role = .secondary →
    f.content.wellFormed = true →
    (s.session.state = .seek → exec (.dataReceived f) s = .next s) ∧
    (s.session.state = .up → f.seq = s.applyq.expected → s.applyq.count < 32 →
      ∃ t, exec (.dataReceived f) s = .next t ∧
        t = { s with applyq := { s.applyq with queue := s.applyq.queue ++ [f],
                                               expected := s.applyq.expected + 1#12 },
                     acker := { s.acker with linkPending := true, nakMark := false, nakArmed := true } } ∧
        t.applyq.limit = s.applyq.limit) ∧
    (s.session.state = .up → f.seq = s.applyq.expected → 32 ≤ s.applyq.count →
      exec (.dataReceived f) s = .next (count .rxFormatErrors s)) ∧
    (s.session.state = .up → seqPrecedes f.seq s.applyq.expected = true →
      exec (.dataReceived f) s =
        .next ((count .rxDuplicates s).setAcker { s.acker with linkPending := true })) ∧
    (s.session.state = .up → f.seq ≠ s.applyq.expected → seqPrecedes f.seq s.applyq.expected = false →
      (s.acker.nakArmed = true → exec (.dataReceived f) s =
        .next ((count .naksSent (count .rxGaps s)).setAcker
          { s.acker with linkPending := true, nakMark := true, nakArmed := false })) ∧
      (s.acker.nakArmed = false → exec (.dataReceived f) s = .next (count .rxGaps s)))

/-! ## Apply queue -/

/-- The take of an entry that needs no grant, which completes within it: GENERATION, SYNCED with its condition met or
not, a valid TABLE, and an entry that fails validation and is rejected. limit rises by one, last_applied is its seq, a
LINK frame is pended. The last entry of a drain completes the promotion with it. With the engine busy or nothing queued
nothing changes (R149, R150, R152, R153, R154, R155, R156, R182). -/
def Obligations.ControlEntriesTaken : Prop :=
  ∀ s : State, s.inReset = false →
    (s.applyq.engine ≠ .idle ∨ s.applyq.queue = [] → exec .applyTake s = .next s) ∧
    (∀ (e : DataFrame) (rest : List DataFrame) (u v : State), s.applyq.engine = .idle → s.applyq.queue = e :: rest →
      u = (s.setApplyq { s.applyq with queue := rest, lastApplied := some e.seq }).setAcker
        { s.acker with linkPending := true } →
      (rest.length < 32 → u.applyq.limit = s.applyq.limit + 1#12) ∧
      (((∃ g, e.content = .generation g ∧
            v = u.setApplyq { u.applyq with dataGeneration := g, consistent := false }) ∨
          (e.content = .synced s.applyq.dataGeneration ∧ s.applyq.reject = false ∧
            v = raise .synced (u.setApplyq { u.applyq with consistent := true })) ∨
          (∃ g, e.content = .synced g ∧ (g ≠ s.applyq.dataGeneration ∨ s.applyq.reject = true) ∧ v = u) ∨
          (∃ records complete, e.content = .table records complete ∧ bankHeld records ∧
            bankValid records s.params.memPages = true ∧
            v = (u.setTable { s.table with active := records }).setApplyq
              { u.applyq with consistent := s.applyq.consistent && complete }) ∨
          (((∃ records complete, e.content = .table records complete ∧ bankValid records s.params.memPages = false) ∨
              (∃ rs r, (e.content = .write rs ∨ (e.content = .copy r ∧ rs = [r])) ∧ r ∈ rs ∧
                ∀ i : WindowId, r.window = i.val → s.table.active[i].present = false ∨
                  r.start < s.table.active[i].firstWord ∨ s.table.active[i].endWord < r.start + r.words.length ∨
                  256 * s.params.memPages < r.start + r.words.length)) ∧
            v = count .entriesRejected (raise .entryRejected
              (u.setApplyq { u.applyq with consistent := false, reject := true })))) →
        (s.part.promotionPending = false ∨ rest ≠ [] → exec .applyTake s = .next v) ∧
        (s.part.promotionPending = true → rest = [] → exec .applyTake s = exec .promotionCompletion v ∧
          ∃ t, exec .promotionCompletion v = .next t ∧ flagSet .promoteDone t = true ∧
            t.part = { role := .primary, promotionPending := false, forced := !v.applyq.consistent })))

/-- A WRITE or COPY entry that passes validation is granted the memory port or waits for it, and at the end of its
operation all its words are in memory, the entry is completed and a LINK frame is pended; the last entry of a drain
completes the promotion with it. Only then is a waiting host transaction granted: it meets what a new one would meet on
the freed port (R46, R47, R149, R150, R151, R156, R182). -/
def Obligations.WordEntriesApplied : Prop :=
  ∀ (s : State) (e : DataFrame), s.inReset = false →
    (∀ (rest : List DataFrame) (rs : List Run), s.applyq.engine = .idle → s.applyq.queue = e :: rest →
      (e.content = .write rs ∨ ∃ r, e.content = .copy r ∧ rs = [r]) →
      (∀ r ∈ rs, ∃ i : WindowId, r.window = i.val ∧ s.table.active[i].present = true ∧
        s.table.active[i].firstWord ≤ r.start ∧ r.start + r.words.length ≤ s.table.active[i].endWord ∧
        r.start + r.words.length ≤ 256 * s.params.memPages) →
      (s.port.holder = .idle → hostRequests s = false → exec .applyTake s =
        .next ((s.setApplyq { s.applyq with queue := rest, engine := .writing e }).setPort
          { holder := .apply, lastGrant := .engine })) ∧
      (s.port.holder ≠ .idle → exec .applyTake s =
        .next (s.setApplyq { s.applyq with queue := rest, engine := .waiting e }))) ∧
    (∀ v, s.port.holder = .apply → s.applyq.engine = .writing e → s.copy.engine = .idle →
      v = (((s.setMem (s.mem.writeAll e.content.accesses)).setApplyq
        { s.applyq with engine := .idle, lastApplied := some e.seq }).setAcker
        { s.acker with linkPending := true }).setPort { s.port with holder := .idle } →
      (hostRequests s = false → s.part.promotionPending = false ∨ s.applyq.queue ≠ [] →
        exec .applyOperationCompletion s = .next v) ∧
      (hostRequests s = false → s.part.promotionPending = true → s.applyq.queue = [] →
        exec .applyOperationCompletion s = exec .promotionCompletion v ∧
          ∃ t, exec .promotionCompletion v = .next t ∧ flagSet .promoteDone t = true ∧
            t.part = { role := .primary, promotionPending := false, forced := !s.applyq.consistent }) ∧
      (∀ a p, s.host.state = .request (.read a) true p → s.part.promotionPending = false ∨ s.applyq.queue ≠ [] →
        exec .applyOperationCompletion s = .next ((v.setPort { holder := .hostRead, lastGrant := .host }).setHost
          { s.host with state := .access (.read a) })) ∧
      (∀ txn, s.host = { state := .request txn true false, completion := none } →
        ∃ t, exec .applyOperationCompletion (s.setHost { state := .idle, completion := none }) = .next t ∧
          exec .applyOperationCompletion s = exec (.hostTransaction txn) t))

/-! ## Copy Engine -/

/-- With its run conditions the IDLE Copy Engine picks the PENDING window with the lowest id, which becomes COPYING at
its first word, and with a window COPYING requests a burst at the cursor: granted at once on a free port, waiting
otherwise. Without the run conditions nothing changes (R46, R165, R166). -/
def Obligations.CopyPickAndRequest : Prop :=
  ∀ s : State, s.inReset = false →
    ((s.part.role ≠ .primary ∨ s.session.state ≠ .up ∨ 56 < s.journal.entries.length ∨ s.copy.engine ≠ .idle) →
      exec .copyPick s = .next s ∧ exec .copyBurstRequest s = .next s) ∧
    (s.part.role = .primary → s.session.state = .up → s.journal.entries.length ≤ 56 → s.copy.engine = .idle →
      (∀ i : WindowId, (∀ j : WindowId, s.copy.states[j].isCopying = false) → s.copy.states[i] = .pending →
        (∀ j : WindowId, j < i → s.copy.states[j] ≠ .pending) →
        exec .copyPick s = .next (s.setCopy { s.copy with
          states := s.copy.states.set i (.copying (256 * s.table.active[i].basePage)) })) ∧
      (∀ (i : WindowId) (c : Nat), s.copy.states[i] = .copying c →
        (∀ j : WindowId, s.copy.states[j].isCopying = true → j = i) →
        (s.port.holder ≠ .idle → exec .copyBurstRequest s =
          .next (s.setCopy { s.copy with engine := .waiting i c })) ∧
        (s.port.holder = .idle → hostRequests s = false → s.applyq.engine = .idle → exec .copyBurstRequest s =
          .next ((s.setCopy { s.copy with engine := .reading i c false }).setPort
            { holder := .burst, lastGrant := .engine }))))

/-- The end of a copy burst: its COPY entry with the 16 words at the cursor is appended after the OPEN entry is
sealed, and the cursor advances by 16, or the window becomes CLEAN at its end; when a SYNCED append is due then, it
follows, a free slot provided. A burst whose window has lost its cursor, or that a soft reset has voided, appends
nothing, seals nothing and moves no cursor. Only then is a waiting host transaction granted: it meets what a new one
would meet on the freed port, and a write that a soft reset took out of STALLED is performed plainly (R10, R46, R47, R49,
R57, R59, R167, R168, R170). -/
def Obligations.BurstEnds : Prop :=
  ∀ (s : State) (i : WindowId) (c : Nat) (v : Bool), s.inReset = false → s.port.holder = .burst →
    s.copy.engine = .reading i c v → s.applyq.engine = .idle → (∀ k < 16, s.mem.fits (c + k) = true) →
    ((v = true ∨ s.copy.states[i] ≠ .copying c) → hostRequests s = false → exec .copyBurstCompletion s =
      .next ((s.setCopy { s.copy with engine := .idle }).setPort { s.port with holder := .idle })) ∧
    (v = false → s.copy.states[i] = .copying c → s.journal.entries.length < 64 → hostRequests s = false →
      ∃ t words, exec .copyBurstCompletion s = .next t ∧ words.length = 16 ∧
        (∀ k : Nat, k < 16 → ∃ d, words[k]? = some { data := d, mask := 15#4 } ∧
          ∀ b < 4, wordByte d b = s.mem.byte (c + k) b) ∧
        t = { s with journal := t.journal, copy := t.copy, capture := { s.capture with sealTimer := none },
                     port := { s.port with holder := .idle }, events := t.events } ∧
        t.copy.engine = .idle ∧
        t.copy.states = s.copy.states.set i
          (if c + 16 = 256 * (s.table.active[i].basePage + s.table.active[i].pageCount) then .clean
            else .copying (c + 16)) ∧
        ∀ follows : Bool, (follows = true ↔
            c + 16 = 256 * (s.table.active[i].basePage + s.table.active[i].pageCount) ∧
              syncedDue (s.setCopy { s.copy with states := s.copy.states.set i .clean }) = true ∧
              s.journal.entries.length < 63) →
          (follows = false → t.copy.syncOwed = s.copy.syncOwed ∧ t.events = s.events ∧
            t.journal = appended (.copy { window := i.val, start := c, words := words }) s.journal) ∧
          (follows = true → t.copy.syncOwed = false ∧ t.events = (raise .synced s).events ∧
            t.journal = appended (.synced s.journal.generation)
              (appended (.copy { window := i.val, start := c, words := words }) s.journal))) ∧
    ((v = true ∨ s.copy.states[i] ≠ .copying c ∨ s.journal.entries.length < 64) →
      ∃ u, exec .copyBurstCompletion (s.setHost { state := .idle, completion := none }) = .next u ∧
        (∀ txn, s.host = { state := .request txn true false, completion := none } →
          exec .copyBurstCompletion s = exec (.hostTransaction txn) u) ∧
        (∀ w, s.host = { state := .request (.write w) true true, completion := none } → s.mem.wf →
          s.mem.fits w.addr.toNat = true →
          ∃ m, exec .copyBurstCompletion s = .next (writeGranted w m u) ∧
            Wrote s.mem m w.addr.toNat w.mask w.data))

/-! ## Frames and characters -/

/-- Reading back what is sent: the bytes of every well-formed frame pass the five checks at a role that may receive
its type, and give the frame back with every field. The records of a TABLE entry fit their two-byte fields. The checks
refuse in their order: fewer than 3 bytes, a CRC that does not end at 0, a type byte of no frame, a type the role may
not receive, and a length or content outside the rules of the type. What passes them is a well-formed frame of a type
the role may receive, in as many bytes as that frame has (R94, R95, R96, R101, R102, R197). -/
def Obligations.FramesReadBack : Prop :=
  (∀ (f : Frame) (role : Role), f.wellFormed = true →
    (∀ d, f = .data d → role = .secondary) → (∀ l, f = .link l → role = .primary) →
    checkFrame role f.bytes = .good f) ∧
  (∀ (role : Role) (buffer : List Byte), buffer.length < 3 → checkFrame role buffer = .short) ∧
  (∀ (role : Role) (buffer : List Byte), 3 ≤ buffer.length → crc16 buffer ≠ 0#16 →
    checkFrame role buffer = .crcFailure) ∧
  (∀ (role : Role) (type : Byte) (body : List Byte), 2 ≤ body.length → crc16 (type :: body) = 0#16 →
    (type = 0x00#8 ∨ 5 ≤ type.toNat → checkFrame role (type :: body) = .unknownType) ∧
    ((type = 0x01#8 ∧ role ≠ .secondary) ∨ (type = 0x02#8 ∧ role ≠ .primary) →
      checkFrame role (type :: body) = .wrongDirection) ∧
    ((type = 0x01#8 ∧ role = .secondary) ∨ (type = 0x02#8 ∧ role = .primary) ∨ type = 0x03#8 ∨ type = 0x04#8 →
      checkFrame role (type :: body) = .malformed ∨ ∃ f, checkFrame role (type :: body) = .good f) ∧
    (type = 0x04#8 → (body.length ≠ 3 ∨ (body.head? ≠ some 0x01#8 ∧ body.head? ≠ some 0x02#8)) →
      checkFrame role (type :: body) = .malformed) ∧
    (type = 0x03#8 → (body.length ≠ 13 ∨ (body[1]? ≠ some (roleByte .primary) ∧ body[1]? ≠ some (roleByte .secondary))) →
      checkFrame role (type :: body) = .malformed) ∧
    (type = 0x02#8 → role = .primary → body.length ≠ 7 → checkFrame role (type :: body) = .malformed) ∧
    (∀ kind : Byte, type = 0x01#8 → role = .secondary → body[2]? = some kind →
      (kind = 0x00#8 ∨ 6 ≤ kind.toNat ∨ (kind = 0x02#8 ∧ body.length ≠ 91) ∨ (kind = 0x03#8 ∧ body.length ≠ 102) ∨
        ((kind = 0x04#8 ∨ kind = 0x05#8) ∧
          (body.length ≠ 7 ∨ (body[3]? = some 0x00#8 ∧ body[4]? = some 0x00#8)))) →
      checkFrame role (type :: body) = .malformed)) ∧
  (∀ (role : Role) (buffer : List Byte) (f : Frame), checkFrame role buffer = .good f →
    f.wellFormed = true ∧ buffer.length = f.bytes.length ∧ (∀ d, f = .data d → role = .secondary) ∧
      (∀ l, f = .link l → role = .primary))

/-- Every symbol but an invalid one has a character with start bit 0 and stop bit 1 that decodes to it; a character is
invalid exactly when it is a control character of value 4 or above, its parity is wrong, or its stop bit is 0; and the
check string of the CRC gives 0x29B1 (R95, R196). -/
def Obligations.CharactersReadBack : Prop :=
  (∀ (sym : Symbol) (c : Character), encodeSymbol sym = some c →
    decodeCharacter c = sym ∧ charBit c 0 = false ∧ charBit c 11 = true) ∧
  (∀ sym : Symbol, sym ≠ .invalid → ∃ c, encodeSymbol sym = some c) ∧
  (∀ c : Character, decodeCharacter c = .invalid ↔
    (charBit c 1 = true ∧ 4 ≤ (charValue c).toNat) ∨ parityOdd c = false ∨ charBit c 11 = false) ∧
  crc16 [0x31#8, 0x32#8, 0x33#8, 0x34#8, 0x35#8, 0x36#8, 0x37#8, 0x38#8, 0x39#8] = 0x29B1#16

/-! ## What every step keeps -/

/-- Every condition of the file Safety holds of the part right after reset. -/
def Obligations.SoundAtReset : Prop :=
  MemoryCanonical State.reset ∧ EventsSound State.reset ∧ ParamsSound State.reset ∧ BanksSound State.reset ∧
    RoleSound State.reset ∧ HoldSound State.reset ∧ SessionSound State.reset ∧ JournalSound State.reset ∧
    ApplySound State.reset ∧ CopyMapSound State.reset ∧ PortSound State.reset

/-- Every step keeps memory in its canonical form (the model's own form of the memory of R44), a REPEAT from standing
without its flag, every counter at most 65535 and every parameter in its range (R189, R190, R193). -/
def Obligations.RegistersStaySound : Prop :=
  ∀ s t : State, MemoryCanonical s ∧ EventsSound s ∧ ParamsSound s → step s = .next t →
    MemoryCanonical t ∧ EventsSound t ∧ ParamsSound t

/-- Every step keeps the active bank valid against MEMPAGES, both banks in normal form, and a commit pending only on a
PRIMARY with a valid staged bank (R25, R32, R34, R40). -/
def Obligations.BanksStaySound : Prop :=
  ∀ s t : State, BanksSound s → step s = .next t → BanksSound t

/-- Every step keeps the journal and all that goes with it empty unless the part is PRIMARY, the apply queue empty and
no promotion pending unless it is SECONDARY, and the session of a DETACHED part OFF, the session being sound as every
step keeps it (R61, R163, R176). -/
def Obligations.RoleStaysSound : Prop :=
  ∀ s t : State, RoleSound s ∧ SessionSound s → step s = .next t → RoleSound t

/-- Every step keeps HOLDING, the one hold mark, the hold timer and the host's held write together (R1, R80, R81,
R82). -/
def Obligations.HoldStaysSound : Prop :=
  ∀ s t : State, HoldSound s → step s = .next t → HoldSound t

/-- Every step keeps the session, its timers and the frame in transmission together (R105, R111, R114, R121, R136,
R143). -/
def Obligations.SessionStaysSound : Prop :=
  ∀ s t : State, SessionSound s → step s = .next t → SessionSound t

/-- Every step keeps the journal's structure: at most 64 entries with consecutive seqs up to next_seq, the send point
among them, INFLIGHT before it and READY or OPEN after it, at most the newest OPEN, the seal age timer running exactly
while it is (R4, R5, R7, R8, R17, R70). -/
def Obligations.JournalStaysSound : Prop :=
  ∀ s t : State, JournalSound s → step s = .next t → JournalSound t

/-- Every step keeps the apply queue's structure: at most 32 entries counting the one under application, the queued
seqs consecutive up to expected − 1, empty unless the part is SECONDARY (R147). -/
def Obligations.ApplyQueueStaysSound : Prop :=
  ∀ s t : State, ApplySound s → step s = .next t → ApplySound t

/-- Every step keeps the copy map with the active bank: on a PRIMARY every present window PENDING, COPYING or CLEAN,
at most one COPYING, its cursor inside it in steps of 16; on any other part all UNTRACKED. What the role keeps empty is
sound as every step keeps it (R163). -/
def Obligations.CopyMapStaysSound : Prop :=
  ∀ s t : State, CopyMapSound s ∧ RoleSound s → step s = .next t → CopyMapSound t

/-- Every step keeps the memory port with the operation its holder has in progress, one at a time, and leaves nothing
waiting at an IDLE port (R44, R46, R47). -/
def Obligations.PortStaysSound : Prop :=
  ∀ s t : State, PortSound s → step s = .next t → PortSound t
end

