-- ==== Sys2Proof/Laws/State.lean ====
section
/-! SUPPORT. Every field of State after every setter, the two setters of one field in a row, and setting a field to what
it holds. All true by rfl. -/

namespace Sys2Proof.Machine

/-! ## inReset -/

@[simp] theorem State.setInReset_inReset (s : State) (x : Bool) : (s.setInReset x).inReset = x := rfl
@[simp] theorem State.setInReset_mgmt (s : State) (x : Bool) : (s.setInReset x).mgmt = s.mgmt := rfl
@[simp] theorem State.setInReset_events (s : State) (x : Bool) : (s.setInReset x).events = s.events := rfl
@[simp] theorem State.setInReset_counters (s : State) (x : Bool) : (s.setInReset x).counters = s.counters := rfl
@[simp] theorem State.setInReset_params (s : State) (x : Bool) : (s.setInReset x).params = s.params := rfl
@[simp] theorem State.setInReset_table (s : State) (x : Bool) : (s.setInReset x).table = s.table := rfl
@[simp] theorem State.setInReset_part (s : State) (x : Bool) : (s.setInReset x).part = s.part := rfl
@[simp] theorem State.setInReset_host (s : State) (x : Bool) : (s.setInReset x).host = s.host := rfl
@[simp] theorem State.setInReset_port (s : State) (x : Bool) : (s.setInReset x).port = s.port := rfl
@[simp] theorem State.setInReset_mem (s : State) (x : Bool) : (s.setInReset x).mem = s.mem := rfl
@[simp] theorem State.setInReset_capture (s : State) (x : Bool) : (s.setInReset x).capture = s.capture := rfl
@[simp] theorem State.setInReset_hold (s : State) (x : Bool) : (s.setInReset x).hold = s.hold := rfl
@[simp] theorem State.setInReset_journal (s : State) (x : Bool) : (s.setInReset x).journal = s.journal := rfl
@[simp] theorem State.setInReset_copy (s : State) (x : Bool) : (s.setInReset x).copy = s.copy := rfl
@[simp] theorem State.setInReset_session (s : State) (x : Bool) : (s.setInReset x).session = s.session := rfl
@[simp] theorem State.setInReset_tx (s : State) (x : Bool) : (s.setInReset x).tx = s.tx := rfl
@[simp] theorem State.setInReset_rx (s : State) (x : Bool) : (s.setInReset x).rx = s.rx := rfl
@[simp] theorem State.setInReset_sender (s : State) (x : Bool) : (s.setInReset x).sender = s.sender := rfl
@[simp] theorem State.setInReset_acker (s : State) (x : Bool) : (s.setInReset x).acker = s.acker := rfl
@[simp] theorem State.setInReset_applyq (s : State) (x : Bool) : (s.setInReset x).applyq = s.applyq := rfl
@[simp] theorem State.setInReset_pending (s : State) (x : Bool) : (s.setInReset x).pending = s.pending := rfl
@[simp] theorem State.setInReset_again (s : State) (x y : Bool) :
    (s.setInReset x).setInReset y = s.setInReset y := rfl
@[simp] theorem State.setInReset_self (s : State) : s.setInReset s.inReset = s := rfl

/-! ## mgmt -/

@[simp] theorem State.setMgmt_inReset (s : State) (x : MgmtPort) : (s.setMgmt x).inReset = s.inReset := rfl
@[simp] theorem State.setMgmt_mgmt (s : State) (x : MgmtPort) : (s.setMgmt x).mgmt = x := rfl
@[simp] theorem State.setMgmt_events (s : State) (x : MgmtPort) : (s.setMgmt x).events = s.events := rfl
@[simp] theorem State.setMgmt_counters (s : State) (x : MgmtPort) : (s.setMgmt x).counters = s.counters := rfl
@[simp] theorem State.setMgmt_params (s : State) (x : MgmtPort) : (s.setMgmt x).params = s.params := rfl
@[simp] theorem State.setMgmt_table (s : State) (x : MgmtPort) : (s.setMgmt x).table = s.table := rfl
@[simp] theorem State.setMgmt_part (s : State) (x : MgmtPort) : (s.setMgmt x).part = s.part := rfl
@[simp] theorem State.setMgmt_host (s : State) (x : MgmtPort) : (s.setMgmt x).host = s.host := rfl
@[simp] theorem State.setMgmt_port (s : State) (x : MgmtPort) : (s.setMgmt x).port = s.port := rfl
@[simp] theorem State.setMgmt_mem (s : State) (x : MgmtPort) : (s.setMgmt x).mem = s.mem := rfl
@[simp] theorem State.setMgmt_capture (s : State) (x : MgmtPort) : (s.setMgmt x).capture = s.capture := rfl
@[simp] theorem State.setMgmt_hold (s : State) (x : MgmtPort) : (s.setMgmt x).hold = s.hold := rfl
@[simp] theorem State.setMgmt_journal (s : State) (x : MgmtPort) : (s.setMgmt x).journal = s.journal := rfl
@[simp] theorem State.setMgmt_copy (s : State) (x : MgmtPort) : (s.setMgmt x).copy = s.copy := rfl
@[simp] theorem State.setMgmt_session (s : State) (x : MgmtPort) : (s.setMgmt x).session = s.session := rfl
@[simp] theorem State.setMgmt_tx (s : State) (x : MgmtPort) : (s.setMgmt x).tx = s.tx := rfl
@[simp] theorem State.setMgmt_rx (s : State) (x : MgmtPort) : (s.setMgmt x).rx = s.rx := rfl
@[simp] theorem State.setMgmt_sender (s : State) (x : MgmtPort) : (s.setMgmt x).sender = s.sender := rfl
@[simp] theorem State.setMgmt_acker (s : State) (x : MgmtPort) : (s.setMgmt x).acker = s.acker := rfl
@[simp] theorem State.setMgmt_applyq (s : State) (x : MgmtPort) : (s.setMgmt x).applyq = s.applyq := rfl
@[simp] theorem State.setMgmt_pending (s : State) (x : MgmtPort) : (s.setMgmt x).pending = s.pending := rfl
@[simp] theorem State.setMgmt_again (s : State) (x y : MgmtPort) :
    (s.setMgmt x).setMgmt y = s.setMgmt y := rfl
@[simp] theorem State.setMgmt_self (s : State) : s.setMgmt s.mgmt = s := rfl

/-! ## events -/

@[simp] theorem State.setEvents_inReset (s : State) (x : EventUnit) : (s.setEvents x).inReset = s.inReset := rfl
@[simp] theorem State.setEvents_mgmt (s : State) (x : EventUnit) : (s.setEvents x).mgmt = s.mgmt := rfl
@[simp] theorem State.setEvents_events (s : State) (x : EventUnit) : (s.setEvents x).events = x := rfl
@[simp] theorem State.setEvents_counters (s : State) (x : EventUnit) : (s.setEvents x).counters = s.counters := rfl
@[simp] theorem State.setEvents_params (s : State) (x : EventUnit) : (s.setEvents x).params = s.params := rfl
@[simp] theorem State.setEvents_table (s : State) (x : EventUnit) : (s.setEvents x).table = s.table := rfl
@[simp] theorem State.setEvents_part (s : State) (x : EventUnit) : (s.setEvents x).part = s.part := rfl
@[simp] theorem State.setEvents_host (s : State) (x : EventUnit) : (s.setEvents x).host = s.host := rfl
@[simp] theorem State.setEvents_port (s : State) (x : EventUnit) : (s.setEvents x).port = s.port := rfl
@[simp] theorem State.setEvents_mem (s : State) (x : EventUnit) : (s.setEvents x).mem = s.mem := rfl
@[simp] theorem State.setEvents_capture (s : State) (x : EventUnit) : (s.setEvents x).capture = s.capture := rfl
@[simp] theorem State.setEvents_hold (s : State) (x : EventUnit) : (s.setEvents x).hold = s.hold := rfl
@[simp] theorem State.setEvents_journal (s : State) (x : EventUnit) : (s.setEvents x).journal = s.journal := rfl
@[simp] theorem State.setEvents_copy (s : State) (x : EventUnit) : (s.setEvents x).copy = s.copy := rfl
@[simp] theorem State.setEvents_session (s : State) (x : EventUnit) : (s.setEvents x).session = s.session := rfl
@[simp] theorem State.setEvents_tx (s : State) (x : EventUnit) : (s.setEvents x).tx = s.tx := rfl
@[simp] theorem State.setEvents_rx (s : State) (x : EventUnit) : (s.setEvents x).rx = s.rx := rfl
@[simp] theorem State.setEvents_sender (s : State) (x : EventUnit) : (s.setEvents x).sender = s.sender := rfl
@[simp] theorem State.setEvents_acker (s : State) (x : EventUnit) : (s.setEvents x).acker = s.acker := rfl
@[simp] theorem State.setEvents_applyq (s : State) (x : EventUnit) : (s.setEvents x).applyq = s.applyq := rfl
@[simp] theorem State.setEvents_pending (s : State) (x : EventUnit) : (s.setEvents x).pending = s.pending := rfl
@[simp] theorem State.setEvents_again (s : State) (x y : EventUnit) :
    (s.setEvents x).setEvents y = s.setEvents y := rfl
@[simp] theorem State.setEvents_self (s : State) : s.setEvents s.events = s := rfl

/-! ## counters -/

@[simp] theorem State.setCounters_inReset (s : State) (x : Vector Nat 15) : (s.setCounters x).inReset = s.inReset := rfl
@[simp] theorem State.setCounters_mgmt (s : State) (x : Vector Nat 15) : (s.setCounters x).mgmt = s.mgmt := rfl
@[simp] theorem State.setCounters_events (s : State) (x : Vector Nat 15) : (s.setCounters x).events = s.events := rfl
@[simp] theorem State.setCounters_counters (s : State) (x : Vector Nat 15) : (s.setCounters x).counters = x := rfl
@[simp] theorem State.setCounters_params (s : State) (x : Vector Nat 15) : (s.setCounters x).params = s.params := rfl
@[simp] theorem State.setCounters_table (s : State) (x : Vector Nat 15) : (s.setCounters x).table = s.table := rfl
@[simp] theorem State.setCounters_part (s : State) (x : Vector Nat 15) : (s.setCounters x).part = s.part := rfl
@[simp] theorem State.setCounters_host (s : State) (x : Vector Nat 15) : (s.setCounters x).host = s.host := rfl
@[simp] theorem State.setCounters_port (s : State) (x : Vector Nat 15) : (s.setCounters x).port = s.port := rfl
@[simp] theorem State.setCounters_mem (s : State) (x : Vector Nat 15) : (s.setCounters x).mem = s.mem := rfl
@[simp] theorem State.setCounters_capture (s : State) (x : Vector Nat 15) : (s.setCounters x).capture = s.capture := rfl
@[simp] theorem State.setCounters_hold (s : State) (x : Vector Nat 15) : (s.setCounters x).hold = s.hold := rfl
@[simp] theorem State.setCounters_journal (s : State) (x : Vector Nat 15) : (s.setCounters x).journal = s.journal := rfl
@[simp] theorem State.setCounters_copy (s : State) (x : Vector Nat 15) : (s.setCounters x).copy = s.copy := rfl
@[simp] theorem State.setCounters_session (s : State) (x : Vector Nat 15) : (s.setCounters x).session = s.session := rfl
@[simp] theorem State.setCounters_tx (s : State) (x : Vector Nat 15) : (s.setCounters x).tx = s.tx := rfl
@[simp] theorem State.setCounters_rx (s : State) (x : Vector Nat 15) : (s.setCounters x).rx = s.rx := rfl
@[simp] theorem State.setCounters_sender (s : State) (x : Vector Nat 15) : (s.setCounters x).sender = s.sender := rfl
@[simp] theorem State.setCounters_acker (s : State) (x : Vector Nat 15) : (s.setCounters x).acker = s.acker := rfl
@[simp] theorem State.setCounters_applyq (s : State) (x : Vector Nat 15) : (s.setCounters x).applyq = s.applyq := rfl
@[simp] theorem State.setCounters_pending (s : State) (x : Vector Nat 15) : (s.setCounters x).pending = s.pending := rfl
@[simp] theorem State.setCounters_again (s : State) (x y : Vector Nat 15) :
    (s.setCounters x).setCounters y = s.setCounters y := rfl
@[simp] theorem State.setCounters_self (s : State) : s.setCounters s.counters = s := rfl

/-! ## params -/

@[simp] theorem State.setParams_inReset (s : State) (x : Params) : (s.setParams x).inReset = s.inReset := rfl
@[simp] theorem State.setParams_mgmt (s : State) (x : Params) : (s.setParams x).mgmt = s.mgmt := rfl
@[simp] theorem State.setParams_events (s : State) (x : Params) : (s.setParams x).events = s.events := rfl
@[simp] theorem State.setParams_counters (s : State) (x : Params) : (s.setParams x).counters = s.counters := rfl
@[simp] theorem State.setParams_params (s : State) (x : Params) : (s.setParams x).params = x := rfl
@[simp] theorem State.setParams_table (s : State) (x : Params) : (s.setParams x).table = s.table := rfl
@[simp] theorem State.setParams_part (s : State) (x : Params) : (s.setParams x).part = s.part := rfl
@[simp] theorem State.setParams_host (s : State) (x : Params) : (s.setParams x).host = s.host := rfl
@[simp] theorem State.setParams_port (s : State) (x : Params) : (s.setParams x).port = s.port := rfl
@[simp] theorem State.setParams_mem (s : State) (x : Params) : (s.setParams x).mem = s.mem := rfl
@[simp] theorem State.setParams_capture (s : State) (x : Params) : (s.setParams x).capture = s.capture := rfl
@[simp] theorem State.setParams_hold (s : State) (x : Params) : (s.setParams x).hold = s.hold := rfl
@[simp] theorem State.setParams_journal (s : State) (x : Params) : (s.setParams x).journal = s.journal := rfl
@[simp] theorem State.setParams_copy (s : State) (x : Params) : (s.setParams x).copy = s.copy := rfl
@[simp] theorem State.setParams_session (s : State) (x : Params) : (s.setParams x).session = s.session := rfl
@[simp] theorem State.setParams_tx (s : State) (x : Params) : (s.setParams x).tx = s.tx := rfl
@[simp] theorem State.setParams_rx (s : State) (x : Params) : (s.setParams x).rx = s.rx := rfl
@[simp] theorem State.setParams_sender (s : State) (x : Params) : (s.setParams x).sender = s.sender := rfl
@[simp] theorem State.setParams_acker (s : State) (x : Params) : (s.setParams x).acker = s.acker := rfl
@[simp] theorem State.setParams_applyq (s : State) (x : Params) : (s.setParams x).applyq = s.applyq := rfl
@[simp] theorem State.setParams_pending (s : State) (x : Params) : (s.setParams x).pending = s.pending := rfl
@[simp] theorem State.setParams_again (s : State) (x y : Params) :
    (s.setParams x).setParams y = s.setParams y := rfl
@[simp] theorem State.setParams_self (s : State) : s.setParams s.params = s := rfl

/-! ## table -/

@[simp] theorem State.setTable_inReset (s : State) (x : WindowTable) : (s.setTable x).inReset = s.inReset := rfl
@[simp] theorem State.setTable_mgmt (s : State) (x : WindowTable) : (s.setTable x).mgmt = s.mgmt := rfl
@[simp] theorem State.setTable_events (s : State) (x : WindowTable) : (s.setTable x).events = s.events := rfl
@[simp] theorem State.setTable_counters (s : State) (x : WindowTable) : (s.setTable x).counters = s.counters := rfl
@[simp] theorem State.setTable_params (s : State) (x : WindowTable) : (s.setTable x).params = s.params := rfl
@[simp] theorem State.setTable_table (s : State) (x : WindowTable) : (s.setTable x).table = x := rfl
@[simp] theorem State.setTable_part (s : State) (x : WindowTable) : (s.setTable x).part = s.part := rfl
@[simp] theorem State.setTable_host (s : State) (x : WindowTable) : (s.setTable x).host = s.host := rfl
@[simp] theorem State.setTable_port (s : State) (x : WindowTable) : (s.setTable x).port = s.port := rfl
@[simp] theorem State.setTable_mem (s : State) (x : WindowTable) : (s.setTable x).mem = s.mem := rfl
@[simp] theorem State.setTable_capture (s : State) (x : WindowTable) : (s.setTable x).capture = s.capture := rfl
@[simp] theorem State.setTable_hold (s : State) (x : WindowTable) : (s.setTable x).hold = s.hold := rfl
@[simp] theorem State.setTable_journal (s : State) (x : WindowTable) : (s.setTable x).journal = s.journal := rfl
@[simp] theorem State.setTable_copy (s : State) (x : WindowTable) : (s.setTable x).copy = s.copy := rfl
@[simp] theorem State.setTable_session (s : State) (x : WindowTable) : (s.setTable x).session = s.session := rfl
@[simp] theorem State.setTable_tx (s : State) (x : WindowTable) : (s.setTable x).tx = s.tx := rfl
@[simp] theorem State.setTable_rx (s : State) (x : WindowTable) : (s.setTable x).rx = s.rx := rfl
@[simp] theorem State.setTable_sender (s : State) (x : WindowTable) : (s.setTable x).sender = s.sender := rfl
@[simp] theorem State.setTable_acker (s : State) (x : WindowTable) : (s.setTable x).acker = s.acker := rfl
@[simp] theorem State.setTable_applyq (s : State) (x : WindowTable) : (s.setTable x).applyq = s.applyq := rfl
@[simp] theorem State.setTable_pending (s : State) (x : WindowTable) : (s.setTable x).pending = s.pending := rfl
@[simp] theorem State.setTable_again (s : State) (x y : WindowTable) :
    (s.setTable x).setTable y = s.setTable y := rfl
@[simp] theorem State.setTable_self (s : State) : s.setTable s.table = s := rfl

/-! ## part -/

@[simp] theorem State.setPart_inReset (s : State) (x : PartRole) : (s.setPart x).inReset = s.inReset := rfl
@[simp] theorem State.setPart_mgmt (s : State) (x : PartRole) : (s.setPart x).mgmt = s.mgmt := rfl
@[simp] theorem State.setPart_events (s : State) (x : PartRole) : (s.setPart x).events = s.events := rfl
@[simp] theorem State.setPart_counters (s : State) (x : PartRole) : (s.setPart x).counters = s.counters := rfl
@[simp] theorem State.setPart_params (s : State) (x : PartRole) : (s.setPart x).params = s.params := rfl
@[simp] theorem State.setPart_table (s : State) (x : PartRole) : (s.setPart x).table = s.table := rfl
@[simp] theorem State.setPart_part (s : State) (x : PartRole) : (s.setPart x).part = x := rfl
@[simp] theorem State.setPart_host (s : State) (x : PartRole) : (s.setPart x).host = s.host := rfl
@[simp] theorem State.setPart_port (s : State) (x : PartRole) : (s.setPart x).port = s.port := rfl
@[simp] theorem State.setPart_mem (s : State) (x : PartRole) : (s.setPart x).mem = s.mem := rfl
@[simp] theorem State.setPart_capture (s : State) (x : PartRole) : (s.setPart x).capture = s.capture := rfl
@[simp] theorem State.setPart_hold (s : State) (x : PartRole) : (s.setPart x).hold = s.hold := rfl
@[simp] theorem State.setPart_journal (s : State) (x : PartRole) : (s.setPart x).journal = s.journal := rfl
@[simp] theorem State.setPart_copy (s : State) (x : PartRole) : (s.setPart x).copy = s.copy := rfl
@[simp] theorem State.setPart_session (s : State) (x : PartRole) : (s.setPart x).session = s.session := rfl
@[simp] theorem State.setPart_tx (s : State) (x : PartRole) : (s.setPart x).tx = s.tx := rfl
@[simp] theorem State.setPart_rx (s : State) (x : PartRole) : (s.setPart x).rx = s.rx := rfl
@[simp] theorem State.setPart_sender (s : State) (x : PartRole) : (s.setPart x).sender = s.sender := rfl
@[simp] theorem State.setPart_acker (s : State) (x : PartRole) : (s.setPart x).acker = s.acker := rfl
@[simp] theorem State.setPart_applyq (s : State) (x : PartRole) : (s.setPart x).applyq = s.applyq := rfl
@[simp] theorem State.setPart_pending (s : State) (x : PartRole) : (s.setPart x).pending = s.pending := rfl
@[simp] theorem State.setPart_again (s : State) (x y : PartRole) :
    (s.setPart x).setPart y = s.setPart y := rfl
@[simp] theorem State.setPart_self (s : State) : s.setPart s.part = s := rfl

/-! ## host -/

@[simp] theorem State.setHost_inReset (s : State) (x : HostPort) : (s.setHost x).inReset = s.inReset := rfl
@[simp] theorem State.setHost_mgmt (s : State) (x : HostPort) : (s.setHost x).mgmt = s.mgmt := rfl
@[simp] theorem State.setHost_events (s : State) (x : HostPort) : (s.setHost x).events = s.events := rfl
@[simp] theorem State.setHost_counters (s : State) (x : HostPort) : (s.setHost x).counters = s.counters := rfl
@[simp] theorem State.setHost_params (s : State) (x : HostPort) : (s.setHost x).params = s.params := rfl
@[simp] theorem State.setHost_table (s : State) (x : HostPort) : (s.setHost x).table = s.table := rfl
@[simp] theorem State.setHost_part (s : State) (x : HostPort) : (s.setHost x).part = s.part := rfl
@[simp] theorem State.setHost_host (s : State) (x : HostPort) : (s.setHost x).host = x := rfl
@[simp] theorem State.setHost_port (s : State) (x : HostPort) : (s.setHost x).port = s.port := rfl
@[simp] theorem State.setHost_mem (s : State) (x : HostPort) : (s.setHost x).mem = s.mem := rfl
@[simp] theorem State.setHost_capture (s : State) (x : HostPort) : (s.setHost x).capture = s.capture := rfl
@[simp] theorem State.setHost_hold (s : State) (x : HostPort) : (s.setHost x).hold = s.hold := rfl
@[simp] theorem State.setHost_journal (s : State) (x : HostPort) : (s.setHost x).journal = s.journal := rfl
@[simp] theorem State.setHost_copy (s : State) (x : HostPort) : (s.setHost x).copy = s.copy := rfl
@[simp] theorem State.setHost_session (s : State) (x : HostPort) : (s.setHost x).session = s.session := rfl
@[simp] theorem State.setHost_tx (s : State) (x : HostPort) : (s.setHost x).tx = s.tx := rfl
@[simp] theorem State.setHost_rx (s : State) (x : HostPort) : (s.setHost x).rx = s.rx := rfl
@[simp] theorem State.setHost_sender (s : State) (x : HostPort) : (s.setHost x).sender = s.sender := rfl
@[simp] theorem State.setHost_acker (s : State) (x : HostPort) : (s.setHost x).acker = s.acker := rfl
@[simp] theorem State.setHost_applyq (s : State) (x : HostPort) : (s.setHost x).applyq = s.applyq := rfl
@[simp] theorem State.setHost_pending (s : State) (x : HostPort) : (s.setHost x).pending = s.pending := rfl
@[simp] theorem State.setHost_again (s : State) (x y : HostPort) :
    (s.setHost x).setHost y = s.setHost y := rfl
@[simp] theorem State.setHost_self (s : State) : s.setHost s.host = s := rfl

/-! ## port -/

@[simp] theorem State.setPort_inReset (s : State) (x : MemoryPort) : (s.setPort x).inReset = s.inReset := rfl
@[simp] theorem State.setPort_mgmt (s : State) (x : MemoryPort) : (s.setPort x).mgmt = s.mgmt := rfl
@[simp] theorem State.setPort_events (s : State) (x : MemoryPort) : (s.setPort x).events = s.events := rfl
@[simp] theorem State.setPort_counters (s : State) (x : MemoryPort) : (s.setPort x).counters = s.counters := rfl
@[simp] theorem State.setPort_params (s : State) (x : MemoryPort) : (s.setPort x).params = s.params := rfl
@[simp] theorem State.setPort_table (s : State) (x : MemoryPort) : (s.setPort x).table = s.table := rfl
@[simp] theorem State.setPort_part (s : State) (x : MemoryPort) : (s.setPort x).part = s.part := rfl
@[simp] theorem State.setPort_host (s : State) (x : MemoryPort) : (s.setPort x).host = s.host := rfl
@[simp] theorem State.setPort_port (s : State) (x : MemoryPort) : (s.setPort x).port = x := rfl
@[simp] theorem State.setPort_mem (s : State) (x : MemoryPort) : (s.setPort x).mem = s.mem := rfl
@[simp] theorem State.setPort_capture (s : State) (x : MemoryPort) : (s.setPort x).capture = s.capture := rfl
@[simp] theorem State.setPort_hold (s : State) (x : MemoryPort) : (s.setPort x).hold = s.hold := rfl
@[simp] theorem State.setPort_journal (s : State) (x : MemoryPort) : (s.setPort x).journal = s.journal := rfl
@[simp] theorem State.setPort_copy (s : State) (x : MemoryPort) : (s.setPort x).copy = s.copy := rfl
@[simp] theorem State.setPort_session (s : State) (x : MemoryPort) : (s.setPort x).session = s.session := rfl
@[simp] theorem State.setPort_tx (s : State) (x : MemoryPort) : (s.setPort x).tx = s.tx := rfl
@[simp] theorem State.setPort_rx (s : State) (x : MemoryPort) : (s.setPort x).rx = s.rx := rfl
@[simp] theorem State.setPort_sender (s : State) (x : MemoryPort) : (s.setPort x).sender = s.sender := rfl
@[simp] theorem State.setPort_acker (s : State) (x : MemoryPort) : (s.setPort x).acker = s.acker := rfl
@[simp] theorem State.setPort_applyq (s : State) (x : MemoryPort) : (s.setPort x).applyq = s.applyq := rfl
@[simp] theorem State.setPort_pending (s : State) (x : MemoryPort) : (s.setPort x).pending = s.pending := rfl
@[simp] theorem State.setPort_again (s : State) (x y : MemoryPort) :
    (s.setPort x).setPort y = s.setPort y := rfl
@[simp] theorem State.setPort_self (s : State) : s.setPort s.port = s := rfl

/-! ## mem -/

@[simp] theorem State.setMem_inReset (s : State) (x : Memory) : (s.setMem x).inReset = s.inReset := rfl
@[simp] theorem State.setMem_mgmt (s : State) (x : Memory) : (s.setMem x).mgmt = s.mgmt := rfl
@[simp] theorem State.setMem_events (s : State) (x : Memory) : (s.setMem x).events = s.events := rfl
@[simp] theorem State.setMem_counters (s : State) (x : Memory) : (s.setMem x).counters = s.counters := rfl
@[simp] theorem State.setMem_params (s : State) (x : Memory) : (s.setMem x).params = s.params := rfl
@[simp] theorem State.setMem_table (s : State) (x : Memory) : (s.setMem x).table = s.table := rfl
@[simp] theorem State.setMem_part (s : State) (x : Memory) : (s.setMem x).part = s.part := rfl
@[simp] theorem State.setMem_host (s : State) (x : Memory) : (s.setMem x).host = s.host := rfl
@[simp] theorem State.setMem_port (s : State) (x : Memory) : (s.setMem x).port = s.port := rfl
@[simp] theorem State.setMem_mem (s : State) (x : Memory) : (s.setMem x).mem = x := rfl
@[simp] theorem State.setMem_capture (s : State) (x : Memory) : (s.setMem x).capture = s.capture := rfl
@[simp] theorem State.setMem_hold (s : State) (x : Memory) : (s.setMem x).hold = s.hold := rfl
@[simp] theorem State.setMem_journal (s : State) (x : Memory) : (s.setMem x).journal = s.journal := rfl
@[simp] theorem State.setMem_copy (s : State) (x : Memory) : (s.setMem x).copy = s.copy := rfl
@[simp] theorem State.setMem_session (s : State) (x : Memory) : (s.setMem x).session = s.session := rfl
@[simp] theorem State.setMem_tx (s : State) (x : Memory) : (s.setMem x).tx = s.tx := rfl
@[simp] theorem State.setMem_rx (s : State) (x : Memory) : (s.setMem x).rx = s.rx := rfl
@[simp] theorem State.setMem_sender (s : State) (x : Memory) : (s.setMem x).sender = s.sender := rfl
@[simp] theorem State.setMem_acker (s : State) (x : Memory) : (s.setMem x).acker = s.acker := rfl
@[simp] theorem State.setMem_applyq (s : State) (x : Memory) : (s.setMem x).applyq = s.applyq := rfl
@[simp] theorem State.setMem_pending (s : State) (x : Memory) : (s.setMem x).pending = s.pending := rfl
@[simp] theorem State.setMem_again (s : State) (x y : Memory) :
    (s.setMem x).setMem y = s.setMem y := rfl
@[simp] theorem State.setMem_self (s : State) : s.setMem s.mem = s := rfl

/-! ## capture -/

@[simp] theorem State.setCapture_inReset (s : State) (x : CaptureUnit) : (s.setCapture x).inReset = s.inReset := rfl
@[simp] theorem State.setCapture_mgmt (s : State) (x : CaptureUnit) : (s.setCapture x).mgmt = s.mgmt := rfl
@[simp] theorem State.setCapture_events (s : State) (x : CaptureUnit) : (s.setCapture x).events = s.events := rfl
@[simp] theorem State.setCapture_counters (s : State) (x : CaptureUnit) : (s.setCapture x).counters = s.counters := rfl
@[simp] theorem State.setCapture_params (s : State) (x : CaptureUnit) : (s.setCapture x).params = s.params := rfl
@[simp] theorem State.setCapture_table (s : State) (x : CaptureUnit) : (s.setCapture x).table = s.table := rfl
@[simp] theorem State.setCapture_part (s : State) (x : CaptureUnit) : (s.setCapture x).part = s.part := rfl
@[simp] theorem State.setCapture_host (s : State) (x : CaptureUnit) : (s.setCapture x).host = s.host := rfl
@[simp] theorem State.setCapture_port (s : State) (x : CaptureUnit) : (s.setCapture x).port = s.port := rfl
@[simp] theorem State.setCapture_mem (s : State) (x : CaptureUnit) : (s.setCapture x).mem = s.mem := rfl
@[simp] theorem State.setCapture_capture (s : State) (x : CaptureUnit) : (s.setCapture x).capture = x := rfl
@[simp] theorem State.setCapture_hold (s : State) (x : CaptureUnit) : (s.setCapture x).hold = s.hold := rfl
@[simp] theorem State.setCapture_journal (s : State) (x : CaptureUnit) : (s.setCapture x).journal = s.journal := rfl
@[simp] theorem State.setCapture_copy (s : State) (x : CaptureUnit) : (s.setCapture x).copy = s.copy := rfl
@[simp] theorem State.setCapture_session (s : State) (x : CaptureUnit) : (s.setCapture x).session = s.session := rfl
@[simp] theorem State.setCapture_tx (s : State) (x : CaptureUnit) : (s.setCapture x).tx = s.tx := rfl
@[simp] theorem State.setCapture_rx (s : State) (x : CaptureUnit) : (s.setCapture x).rx = s.rx := rfl
@[simp] theorem State.setCapture_sender (s : State) (x : CaptureUnit) : (s.setCapture x).sender = s.sender := rfl
@[simp] theorem State.setCapture_acker (s : State) (x : CaptureUnit) : (s.setCapture x).acker = s.acker := rfl
@[simp] theorem State.setCapture_applyq (s : State) (x : CaptureUnit) : (s.setCapture x).applyq = s.applyq := rfl
@[simp] theorem State.setCapture_pending (s : State) (x : CaptureUnit) : (s.setCapture x).pending = s.pending := rfl
@[simp] theorem State.setCapture_again (s : State) (x y : CaptureUnit) :
    (s.setCapture x).setCapture y = s.setCapture y := rfl
@[simp] theorem State.setCapture_self (s : State) : s.setCapture s.capture = s := rfl

/-! ## hold -/

@[simp] theorem State.setHold_inReset (s : State) (x : HoldUnit) : (s.setHold x).inReset = s.inReset := rfl
@[simp] theorem State.setHold_mgmt (s : State) (x : HoldUnit) : (s.setHold x).mgmt = s.mgmt := rfl
@[simp] theorem State.setHold_events (s : State) (x : HoldUnit) : (s.setHold x).events = s.events := rfl
@[simp] theorem State.setHold_counters (s : State) (x : HoldUnit) : (s.setHold x).counters = s.counters := rfl
@[simp] theorem State.setHold_params (s : State) (x : HoldUnit) : (s.setHold x).params = s.params := rfl
@[simp] theorem State.setHold_table (s : State) (x : HoldUnit) : (s.setHold x).table = s.table := rfl
@[simp] theorem State.setHold_part (s : State) (x : HoldUnit) : (s.setHold x).part = s.part := rfl
@[simp] theorem State.setHold_host (s : State) (x : HoldUnit) : (s.setHold x).host = s.host := rfl
@[simp] theorem State.setHold_port (s : State) (x : HoldUnit) : (s.setHold x).port = s.port := rfl
@[simp] theorem State.setHold_mem (s : State) (x : HoldUnit) : (s.setHold x).mem = s.mem := rfl
@[simp] theorem State.setHold_capture (s : State) (x : HoldUnit) : (s.setHold x).capture = s.capture := rfl
@[simp] theorem State.setHold_hold (s : State) (x : HoldUnit) : (s.setHold x).hold = x := rfl
@[simp] theorem State.setHold_journal (s : State) (x : HoldUnit) : (s.setHold x).journal = s.journal := rfl
@[simp] theorem State.setHold_copy (s : State) (x : HoldUnit) : (s.setHold x).copy = s.copy := rfl
@[simp] theorem State.setHold_session (s : State) (x : HoldUnit) : (s.setHold x).session = s.session := rfl
@[simp] theorem State.setHold_tx (s : State) (x : HoldUnit) : (s.setHold x).tx = s.tx := rfl
@[simp] theorem State.setHold_rx (s : State) (x : HoldUnit) : (s.setHold x).rx = s.rx := rfl
@[simp] theorem State.setHold_sender (s : State) (x : HoldUnit) : (s.setHold x).sender = s.sender := rfl
@[simp] theorem State.setHold_acker (s : State) (x : HoldUnit) : (s.setHold x).acker = s.acker := rfl
@[simp] theorem State.setHold_applyq (s : State) (x : HoldUnit) : (s.setHold x).applyq = s.applyq := rfl
@[simp] theorem State.setHold_pending (s : State) (x : HoldUnit) : (s.setHold x).pending = s.pending := rfl
@[simp] theorem State.setHold_again (s : State) (x y : HoldUnit) :
    (s.setHold x).setHold y = s.setHold y := rfl
@[simp] theorem State.setHold_self (s : State) : s.setHold s.hold = s := rfl

/-! ## journal -/

@[simp] theorem State.setJournal_inReset (s : State) (x : Journal) : (s.setJournal x).inReset = s.inReset := rfl
@[simp] theorem State.setJournal_mgmt (s : State) (x : Journal) : (s.setJournal x).mgmt = s.mgmt := rfl
@[simp] theorem State.setJournal_events (s : State) (x : Journal) : (s.setJournal x).events = s.events := rfl
@[simp] theorem State.setJournal_counters (s : State) (x : Journal) : (s.setJournal x).counters = s.counters := rfl
@[simp] theorem State.setJournal_params (s : State) (x : Journal) : (s.setJournal x).params = s.params := rfl
@[simp] theorem State.setJournal_table (s : State) (x : Journal) : (s.setJournal x).table = s.table := rfl
@[simp] theorem State.setJournal_part (s : State) (x : Journal) : (s.setJournal x).part = s.part := rfl
@[simp] theorem State.setJournal_host (s : State) (x : Journal) : (s.setJournal x).host = s.host := rfl
@[simp] theorem State.setJournal_port (s : State) (x : Journal) : (s.setJournal x).port = s.port := rfl
@[simp] theorem State.setJournal_mem (s : State) (x : Journal) : (s.setJournal x).mem = s.mem := rfl
@[simp] theorem State.setJournal_capture (s : State) (x : Journal) : (s.setJournal x).capture = s.capture := rfl
@[simp] theorem State.setJournal_hold (s : State) (x : Journal) : (s.setJournal x).hold = s.hold := rfl
@[simp] theorem State.setJournal_journal (s : State) (x : Journal) : (s.setJournal x).journal = x := rfl
@[simp] theorem State.setJournal_copy (s : State) (x : Journal) : (s.setJournal x).copy = s.copy := rfl
@[simp] theorem State.setJournal_session (s : State) (x : Journal) : (s.setJournal x).session = s.session := rfl
@[simp] theorem State.setJournal_tx (s : State) (x : Journal) : (s.setJournal x).tx = s.tx := rfl
@[simp] theorem State.setJournal_rx (s : State) (x : Journal) : (s.setJournal x).rx = s.rx := rfl
@[simp] theorem State.setJournal_sender (s : State) (x : Journal) : (s.setJournal x).sender = s.sender := rfl
@[simp] theorem State.setJournal_acker (s : State) (x : Journal) : (s.setJournal x).acker = s.acker := rfl
@[simp] theorem State.setJournal_applyq (s : State) (x : Journal) : (s.setJournal x).applyq = s.applyq := rfl
@[simp] theorem State.setJournal_pending (s : State) (x : Journal) : (s.setJournal x).pending = s.pending := rfl
@[simp] theorem State.setJournal_again (s : State) (x y : Journal) :
    (s.setJournal x).setJournal y = s.setJournal y := rfl
@[simp] theorem State.setJournal_self (s : State) : s.setJournal s.journal = s := rfl

/-! ## copy -/

@[simp] theorem State.setCopy_inReset (s : State) (x : CopyUnit) : (s.setCopy x).inReset = s.inReset := rfl
@[simp] theorem State.setCopy_mgmt (s : State) (x : CopyUnit) : (s.setCopy x).mgmt = s.mgmt := rfl
@[simp] theorem State.setCopy_events (s : State) (x : CopyUnit) : (s.setCopy x).events = s.events := rfl
@[simp] theorem State.setCopy_counters (s : State) (x : CopyUnit) : (s.setCopy x).counters = s.counters := rfl
@[simp] theorem State.setCopy_params (s : State) (x : CopyUnit) : (s.setCopy x).params = s.params := rfl
@[simp] theorem State.setCopy_table (s : State) (x : CopyUnit) : (s.setCopy x).table = s.table := rfl
@[simp] theorem State.setCopy_part (s : State) (x : CopyUnit) : (s.setCopy x).part = s.part := rfl
@[simp] theorem State.setCopy_host (s : State) (x : CopyUnit) : (s.setCopy x).host = s.host := rfl
@[simp] theorem State.setCopy_port (s : State) (x : CopyUnit) : (s.setCopy x).port = s.port := rfl
@[simp] theorem State.setCopy_mem (s : State) (x : CopyUnit) : (s.setCopy x).mem = s.mem := rfl
@[simp] theorem State.setCopy_capture (s : State) (x : CopyUnit) : (s.setCopy x).capture = s.capture := rfl
@[simp] theorem State.setCopy_hold (s : State) (x : CopyUnit) : (s.setCopy x).hold = s.hold := rfl
@[simp] theorem State.setCopy_journal (s : State) (x : CopyUnit) : (s.setCopy x).journal = s.journal := rfl
@[simp] theorem State.setCopy_copy (s : State) (x : CopyUnit) : (s.setCopy x).copy = x := rfl
@[simp] theorem State.setCopy_session (s : State) (x : CopyUnit) : (s.setCopy x).session = s.session := rfl
@[simp] theorem State.setCopy_tx (s : State) (x : CopyUnit) : (s.setCopy x).tx = s.tx := rfl
@[simp] theorem State.setCopy_rx (s : State) (x : CopyUnit) : (s.setCopy x).rx = s.rx := rfl
@[simp] theorem State.setCopy_sender (s : State) (x : CopyUnit) : (s.setCopy x).sender = s.sender := rfl
@[simp] theorem State.setCopy_acker (s : State) (x : CopyUnit) : (s.setCopy x).acker = s.acker := rfl
@[simp] theorem State.setCopy_applyq (s : State) (x : CopyUnit) : (s.setCopy x).applyq = s.applyq := rfl
@[simp] theorem State.setCopy_pending (s : State) (x : CopyUnit) : (s.setCopy x).pending = s.pending := rfl
@[simp] theorem State.setCopy_again (s : State) (x y : CopyUnit) :
    (s.setCopy x).setCopy y = s.setCopy y := rfl
@[simp] theorem State.setCopy_self (s : State) : s.setCopy s.copy = s := rfl

/-! ## session -/

@[simp] theorem State.setSession_inReset (s : State) (x : SessionUnit) : (s.setSession x).inReset = s.inReset := rfl
@[simp] theorem State.setSession_mgmt (s : State) (x : SessionUnit) : (s.setSession x).mgmt = s.mgmt := rfl
@[simp] theorem State.setSession_events (s : State) (x : SessionUnit) : (s.setSession x).events = s.events := rfl
@[simp] theorem State.setSession_counters (s : State) (x : SessionUnit) : (s.setSession x).counters = s.counters := rfl
@[simp] theorem State.setSession_params (s : State) (x : SessionUnit) : (s.setSession x).params = s.params := rfl
@[simp] theorem State.setSession_table (s : State) (x : SessionUnit) : (s.setSession x).table = s.table := rfl
@[simp] theorem State.setSession_part (s : State) (x : SessionUnit) : (s.setSession x).part = s.part := rfl
@[simp] theorem State.setSession_host (s : State) (x : SessionUnit) : (s.setSession x).host = s.host := rfl
@[simp] theorem State.setSession_port (s : State) (x : SessionUnit) : (s.setSession x).port = s.port := rfl
@[simp] theorem State.setSession_mem (s : State) (x : SessionUnit) : (s.setSession x).mem = s.mem := rfl
@[simp] theorem State.setSession_capture (s : State) (x : SessionUnit) : (s.setSession x).capture = s.capture := rfl
@[simp] theorem State.setSession_hold (s : State) (x : SessionUnit) : (s.setSession x).hold = s.hold := rfl
@[simp] theorem State.setSession_journal (s : State) (x : SessionUnit) : (s.setSession x).journal = s.journal := rfl
@[simp] theorem State.setSession_copy (s : State) (x : SessionUnit) : (s.setSession x).copy = s.copy := rfl
@[simp] theorem State.setSession_session (s : State) (x : SessionUnit) : (s.setSession x).session = x := rfl
@[simp] theorem State.setSession_tx (s : State) (x : SessionUnit) : (s.setSession x).tx = s.tx := rfl
@[simp] theorem State.setSession_rx (s : State) (x : SessionUnit) : (s.setSession x).rx = s.rx := rfl
@[simp] theorem State.setSession_sender (s : State) (x : SessionUnit) : (s.setSession x).sender = s.sender := rfl
@[simp] theorem State.setSession_acker (s : State) (x : SessionUnit) : (s.setSession x).acker = s.acker := rfl
@[simp] theorem State.setSession_applyq (s : State) (x : SessionUnit) : (s.setSession x).applyq = s.applyq := rfl
@[simp] theorem State.setSession_pending (s : State) (x : SessionUnit) : (s.setSession x).pending = s.pending := rfl
@[simp] theorem State.setSession_again (s : State) (x y : SessionUnit) :
    (s.setSession x).setSession y = s.setSession y := rfl
@[simp] theorem State.setSession_self (s : State) : s.setSession s.session = s := rfl

/-! ## tx -/

@[simp] theorem State.setTx_inReset (s : State) (x : Transmitter) : (s.setTx x).inReset = s.inReset := rfl
@[simp] theorem State.setTx_mgmt (s : State) (x : Transmitter) : (s.setTx x).mgmt = s.mgmt := rfl
@[simp] theorem State.setTx_events (s : State) (x : Transmitter) : (s.setTx x).events = s.events := rfl
@[simp] theorem State.setTx_counters (s : State) (x : Transmitter) : (s.setTx x).counters = s.counters := rfl
@[simp] theorem State.setTx_params (s : State) (x : Transmitter) : (s.setTx x).params = s.params := rfl
@[simp] theorem State.setTx_table (s : State) (x : Transmitter) : (s.setTx x).table = s.table := rfl
@[simp] theorem State.setTx_part (s : State) (x : Transmitter) : (s.setTx x).part = s.part := rfl
@[simp] theorem State.setTx_host (s : State) (x : Transmitter) : (s.setTx x).host = s.host := rfl
@[simp] theorem State.setTx_port (s : State) (x : Transmitter) : (s.setTx x).port = s.port := rfl
@[simp] theorem State.setTx_mem (s : State) (x : Transmitter) : (s.setTx x).mem = s.mem := rfl
@[simp] theorem State.setTx_capture (s : State) (x : Transmitter) : (s.setTx x).capture = s.capture := rfl
@[simp] theorem State.setTx_hold (s : State) (x : Transmitter) : (s.setTx x).hold = s.hold := rfl
@[simp] theorem State.setTx_journal (s : State) (x : Transmitter) : (s.setTx x).journal = s.journal := rfl
@[simp] theorem State.setTx_copy (s : State) (x : Transmitter) : (s.setTx x).copy = s.copy := rfl
@[simp] theorem State.setTx_session (s : State) (x : Transmitter) : (s.setTx x).session = s.session := rfl
@[simp] theorem State.setTx_tx (s : State) (x : Transmitter) : (s.setTx x).tx = x := rfl
@[simp] theorem State.setTx_rx (s : State) (x : Transmitter) : (s.setTx x).rx = s.rx := rfl
@[simp] theorem State.setTx_sender (s : State) (x : Transmitter) : (s.setTx x).sender = s.sender := rfl
@[simp] theorem State.setTx_acker (s : State) (x : Transmitter) : (s.setTx x).acker = s.acker := rfl
@[simp] theorem State.setTx_applyq (s : State) (x : Transmitter) : (s.setTx x).applyq = s.applyq := rfl
@[simp] theorem State.setTx_pending (s : State) (x : Transmitter) : (s.setTx x).pending = s.pending := rfl
@[simp] theorem State.setTx_again (s : State) (x y : Transmitter) :
    (s.setTx x).setTx y = s.setTx y := rfl
@[simp] theorem State.setTx_self (s : State) : s.setTx s.tx = s := rfl

/-! ## rx -/

@[simp] theorem State.setRx_inReset (s : State) (x : Receiver) : (s.setRx x).inReset = s.inReset := rfl
@[simp] theorem State.setRx_mgmt (s : State) (x : Receiver) : (s.setRx x).mgmt = s.mgmt := rfl
@[simp] theorem State.setRx_events (s : State) (x : Receiver) : (s.setRx x).events = s.events := rfl
@[simp] theorem State.setRx_counters (s : State) (x : Receiver) : (s.setRx x).counters = s.counters := rfl
@[simp] theorem State.setRx_params (s : State) (x : Receiver) : (s.setRx x).params = s.params := rfl
@[simp] theorem State.setRx_table (s : State) (x : Receiver) : (s.setRx x).table = s.table := rfl
@[simp] theorem State.setRx_part (s : State) (x : Receiver) : (s.setRx x).part = s.part := rfl
@[simp] theorem State.setRx_host (s : State) (x : Receiver) : (s.setRx x).host = s.host := rfl
@[simp] theorem State.setRx_port (s : State) (x : Receiver) : (s.setRx x).port = s.port := rfl
@[simp] theorem State.setRx_mem (s : State) (x : Receiver) : (s.setRx x).mem = s.mem := rfl
@[simp] theorem State.setRx_capture (s : State) (x : Receiver) : (s.setRx x).capture = s.capture := rfl
@[simp] theorem State.setRx_hold (s : State) (x : Receiver) : (s.setRx x).hold = s.hold := rfl
@[simp] theorem State.setRx_journal (s : State) (x : Receiver) : (s.setRx x).journal = s.journal := rfl
@[simp] theorem State.setRx_copy (s : State) (x : Receiver) : (s.setRx x).copy = s.copy := rfl
@[simp] theorem State.setRx_session (s : State) (x : Receiver) : (s.setRx x).session = s.session := rfl
@[simp] theorem State.setRx_tx (s : State) (x : Receiver) : (s.setRx x).tx = s.tx := rfl
@[simp] theorem State.setRx_rx (s : State) (x : Receiver) : (s.setRx x).rx = x := rfl
@[simp] theorem State.setRx_sender (s : State) (x : Receiver) : (s.setRx x).sender = s.sender := rfl
@[simp] theorem State.setRx_acker (s : State) (x : Receiver) : (s.setRx x).acker = s.acker := rfl
@[simp] theorem State.setRx_applyq (s : State) (x : Receiver) : (s.setRx x).applyq = s.applyq := rfl
@[simp] theorem State.setRx_pending (s : State) (x : Receiver) : (s.setRx x).pending = s.pending := rfl
@[simp] theorem State.setRx_again (s : State) (x y : Receiver) :
    (s.setRx x).setRx y = s.setRx y := rfl
@[simp] theorem State.setRx_self (s : State) : s.setRx s.rx = s := rfl

/-! ## sender -/

@[simp] theorem State.setSender_inReset (s : State) (x : SendDelivery) : (s.setSender x).inReset = s.inReset := rfl
@[simp] theorem State.setSender_mgmt (s : State) (x : SendDelivery) : (s.setSender x).mgmt = s.mgmt := rfl
@[simp] theorem State.setSender_events (s : State) (x : SendDelivery) : (s.setSender x).events = s.events := rfl
@[simp] theorem State.setSender_counters (s : State) (x : SendDelivery) : (s.setSender x).counters = s.counters := rfl
@[simp] theorem State.setSender_params (s : State) (x : SendDelivery) : (s.setSender x).params = s.params := rfl
@[simp] theorem State.setSender_table (s : State) (x : SendDelivery) : (s.setSender x).table = s.table := rfl
@[simp] theorem State.setSender_part (s : State) (x : SendDelivery) : (s.setSender x).part = s.part := rfl
@[simp] theorem State.setSender_host (s : State) (x : SendDelivery) : (s.setSender x).host = s.host := rfl
@[simp] theorem State.setSender_port (s : State) (x : SendDelivery) : (s.setSender x).port = s.port := rfl
@[simp] theorem State.setSender_mem (s : State) (x : SendDelivery) : (s.setSender x).mem = s.mem := rfl
@[simp] theorem State.setSender_capture (s : State) (x : SendDelivery) : (s.setSender x).capture = s.capture := rfl
@[simp] theorem State.setSender_hold (s : State) (x : SendDelivery) : (s.setSender x).hold = s.hold := rfl
@[simp] theorem State.setSender_journal (s : State) (x : SendDelivery) : (s.setSender x).journal = s.journal := rfl
@[simp] theorem State.setSender_copy (s : State) (x : SendDelivery) : (s.setSender x).copy = s.copy := rfl
@[simp] theorem State.setSender_session (s : State) (x : SendDelivery) : (s.setSender x).session = s.session := rfl
@[simp] theorem State.setSender_tx (s : State) (x : SendDelivery) : (s.setSender x).tx = s.tx := rfl
@[simp] theorem State.setSender_rx (s : State) (x : SendDelivery) : (s.setSender x).rx = s.rx := rfl
@[simp] theorem State.setSender_sender (s : State) (x : SendDelivery) : (s.setSender x).sender = x := rfl
@[simp] theorem State.setSender_acker (s : State) (x : SendDelivery) : (s.setSender x).acker = s.acker := rfl
@[simp] theorem State.setSender_applyq (s : State) (x : SendDelivery) : (s.setSender x).applyq = s.applyq := rfl
@[simp] theorem State.setSender_pending (s : State) (x : SendDelivery) : (s.setSender x).pending = s.pending := rfl
@[simp] theorem State.setSender_again (s : State) (x y : SendDelivery) :
    (s.setSender x).setSender y = s.setSender y := rfl
@[simp] theorem State.setSender_self (s : State) : s.setSender s.sender = s := rfl

/-! ## acker -/

@[simp] theorem State.setAcker_inReset (s : State) (x : AckDelivery) : (s.setAcker x).inReset = s.inReset := rfl
@[simp] theorem State.setAcker_mgmt (s : State) (x : AckDelivery) : (s.setAcker x).mgmt = s.mgmt := rfl
@[simp] theorem State.setAcker_events (s : State) (x : AckDelivery) : (s.setAcker x).events = s.events := rfl
@[simp] theorem State.setAcker_counters (s : State) (x : AckDelivery) : (s.setAcker x).counters = s.counters := rfl
@[simp] theorem State.setAcker_params (s : State) (x : AckDelivery) : (s.setAcker x).params = s.params := rfl
@[simp] theorem State.setAcker_table (s : State) (x : AckDelivery) : (s.setAcker x).table = s.table := rfl
@[simp] theorem State.setAcker_part (s : State) (x : AckDelivery) : (s.setAcker x).part = s.part := rfl
@[simp] theorem State.setAcker_host (s : State) (x : AckDelivery) : (s.setAcker x).host = s.host := rfl
@[simp] theorem State.setAcker_port (s : State) (x : AckDelivery) : (s.setAcker x).port = s.port := rfl
@[simp] theorem State.setAcker_mem (s : State) (x : AckDelivery) : (s.setAcker x).mem = s.mem := rfl
@[simp] theorem State.setAcker_capture (s : State) (x : AckDelivery) : (s.setAcker x).capture = s.capture := rfl
@[simp] theorem State.setAcker_hold (s : State) (x : AckDelivery) : (s.setAcker x).hold = s.hold := rfl
@[simp] theorem State.setAcker_journal (s : State) (x : AckDelivery) : (s.setAcker x).journal = s.journal := rfl
@[simp] theorem State.setAcker_copy (s : State) (x : AckDelivery) : (s.setAcker x).copy = s.copy := rfl
@[simp] theorem State.setAcker_session (s : State) (x : AckDelivery) : (s.setAcker x).session = s.session := rfl
@[simp] theorem State.setAcker_tx (s : State) (x : AckDelivery) : (s.setAcker x).tx = s.tx := rfl
@[simp] theorem State.setAcker_rx (s : State) (x : AckDelivery) : (s.setAcker x).rx = s.rx := rfl
@[simp] theorem State.setAcker_sender (s : State) (x : AckDelivery) : (s.setAcker x).sender = s.sender := rfl
@[simp] theorem State.setAcker_acker (s : State) (x : AckDelivery) : (s.setAcker x).acker = x := rfl
@[simp] theorem State.setAcker_applyq (s : State) (x : AckDelivery) : (s.setAcker x).applyq = s.applyq := rfl
@[simp] theorem State.setAcker_pending (s : State) (x : AckDelivery) : (s.setAcker x).pending = s.pending := rfl
@[simp] theorem State.setAcker_again (s : State) (x y : AckDelivery) :
    (s.setAcker x).setAcker y = s.setAcker y := rfl
@[simp] theorem State.setAcker_self (s : State) : s.setAcker s.acker = s := rfl

/-! ## applyq -/

@[simp] theorem State.setApplyq_inReset (s : State) (x : ApplyUnit) : (s.setApplyq x).inReset = s.inReset := rfl
@[simp] theorem State.setApplyq_mgmt (s : State) (x : ApplyUnit) : (s.setApplyq x).mgmt = s.mgmt := rfl
@[simp] theorem State.setApplyq_events (s : State) (x : ApplyUnit) : (s.setApplyq x).events = s.events := rfl
@[simp] theorem State.setApplyq_counters (s : State) (x : ApplyUnit) : (s.setApplyq x).counters = s.counters := rfl
@[simp] theorem State.setApplyq_params (s : State) (x : ApplyUnit) : (s.setApplyq x).params = s.params := rfl
@[simp] theorem State.setApplyq_table (s : State) (x : ApplyUnit) : (s.setApplyq x).table = s.table := rfl
@[simp] theorem State.setApplyq_part (s : State) (x : ApplyUnit) : (s.setApplyq x).part = s.part := rfl
@[simp] theorem State.setApplyq_host (s : State) (x : ApplyUnit) : (s.setApplyq x).host = s.host := rfl
@[simp] theorem State.setApplyq_port (s : State) (x : ApplyUnit) : (s.setApplyq x).port = s.port := rfl
@[simp] theorem State.setApplyq_mem (s : State) (x : ApplyUnit) : (s.setApplyq x).mem = s.mem := rfl
@[simp] theorem State.setApplyq_capture (s : State) (x : ApplyUnit) : (s.setApplyq x).capture = s.capture := rfl
@[simp] theorem State.setApplyq_hold (s : State) (x : ApplyUnit) : (s.setApplyq x).hold = s.hold := rfl
@[simp] theorem State.setApplyq_journal (s : State) (x : ApplyUnit) : (s.setApplyq x).journal = s.journal := rfl
@[simp] theorem State.setApplyq_copy (s : State) (x : ApplyUnit) : (s.setApplyq x).copy = s.copy := rfl
@[simp] theorem State.setApplyq_session (s : State) (x : ApplyUnit) : (s.setApplyq x).session = s.session := rfl
@[simp] theorem State.setApplyq_tx (s : State) (x : ApplyUnit) : (s.setApplyq x).tx = s.tx := rfl
@[simp] theorem State.setApplyq_rx (s : State) (x : ApplyUnit) : (s.setApplyq x).rx = s.rx := rfl
@[simp] theorem State.setApplyq_sender (s : State) (x : ApplyUnit) : (s.setApplyq x).sender = s.sender := rfl
@[simp] theorem State.setApplyq_acker (s : State) (x : ApplyUnit) : (s.setApplyq x).acker = s.acker := rfl
@[simp] theorem State.setApplyq_applyq (s : State) (x : ApplyUnit) : (s.setApplyq x).applyq = x := rfl
@[simp] theorem State.setApplyq_pending (s : State) (x : ApplyUnit) : (s.setApplyq x).pending = s.pending := rfl
@[simp] theorem State.setApplyq_again (s : State) (x y : ApplyUnit) :
    (s.setApplyq x).setApplyq y = s.setApplyq y := rfl
@[simp] theorem State.setApplyq_self (s : State) : s.setApplyq s.applyq = s := rfl

/-! ## pending -/

@[simp] theorem State.setPending_inReset (s : State) (x : List Instr) : (s.setPending x).inReset = s.inReset := rfl
@[simp] theorem State.setPending_mgmt (s : State) (x : List Instr) : (s.setPending x).mgmt = s.mgmt := rfl
@[simp] theorem State.setPending_events (s : State) (x : List Instr) : (s.setPending x).events = s.events := rfl
@[simp] theorem State.setPending_counters (s : State) (x : List Instr) : (s.setPending x).counters = s.counters := rfl
@[simp] theorem State.setPending_params (s : State) (x : List Instr) : (s.setPending x).params = s.params := rfl
@[simp] theorem State.setPending_table (s : State) (x : List Instr) : (s.setPending x).table = s.table := rfl
@[simp] theorem State.setPending_part (s : State) (x : List Instr) : (s.setPending x).part = s.part := rfl
@[simp] theorem State.setPending_host (s : State) (x : List Instr) : (s.setPending x).host = s.host := rfl
@[simp] theorem State.setPending_port (s : State) (x : List Instr) : (s.setPending x).port = s.port := rfl
@[simp] theorem State.setPending_mem (s : State) (x : List Instr) : (s.setPending x).mem = s.mem := rfl
@[simp] theorem State.setPending_capture (s : State) (x : List Instr) : (s.setPending x).capture = s.capture := rfl
@[simp] theorem State.setPending_hold (s : State) (x : List Instr) : (s.setPending x).hold = s.hold := rfl
@[simp] theorem State.setPending_journal (s : State) (x : List Instr) : (s.setPending x).journal = s.journal := rfl
@[simp] theorem State.setPending_copy (s : State) (x : List Instr) : (s.setPending x).copy = s.copy := rfl
@[simp] theorem State.setPending_session (s : State) (x : List Instr) : (s.setPending x).session = s.session := rfl
@[simp] theorem State.setPending_tx (s : State) (x : List Instr) : (s.setPending x).tx = s.tx := rfl
@[simp] theorem State.setPending_rx (s : State) (x : List Instr) : (s.setPending x).rx = s.rx := rfl
@[simp] theorem State.setPending_sender (s : State) (x : List Instr) : (s.setPending x).sender = s.sender := rfl
@[simp] theorem State.setPending_acker (s : State) (x : List Instr) : (s.setPending x).acker = s.acker := rfl
@[simp] theorem State.setPending_applyq (s : State) (x : List Instr) : (s.setPending x).applyq = s.applyq := rfl
@[simp] theorem State.setPending_pending (s : State) (x : List Instr) : (s.setPending x).pending = x := rfl
@[simp] theorem State.setPending_again (s : State) (x y : List Instr) :
    (s.setPending x).setPending y = s.setPending y := rfl
@[simp] theorem State.setPending_self (s : State) : s.setPending s.pending = s := rfl

end Sys2Proof.Machine
end

