-- ==== Sys2Proof/Laws/Frames.lean ====
section
/-! SUPPORT. The frame of every shared operation: for each field an operation leaves alone, one lemma that says so. -/

namespace Sys2Proof.Machine

@[simp] theorem raise_frame (e : Event) (s : State) :
    (raise e s).inReset = s.inReset ∧ (raise e s).mgmt = s.mgmt ∧ (raise e s).counters = s.counters ∧
    (raise e s).params = s.params ∧ (raise e s).table = s.table ∧ (raise e s).part = s.part ∧
    (raise e s).host = s.host ∧ (raise e s).port = s.port ∧ (raise e s).mem = s.mem ∧
    (raise e s).capture = s.capture ∧ (raise e s).hold = s.hold ∧ (raise e s).journal = s.journal ∧
    (raise e s).copy = s.copy ∧ (raise e s).session = s.session ∧ (raise e s).tx = s.tx ∧ (raise e s).rx = s.rx ∧
    (raise e s).sender = s.sender ∧ (raise e s).acker = s.acker ∧ (raise e s).applyq = s.applyq ∧
    (raise e s).pending = s.pending := by
  and_intros <;> rfl

@[simp] theorem count_frame (c : Counter) (s : State) :
    (count c s).inReset = s.inReset ∧ (count c s).mgmt = s.mgmt ∧ (count c s).events = s.events ∧
    (count c s).params = s.params ∧ (count c s).table = s.table ∧ (count c s).part = s.part ∧
    (count c s).host = s.host ∧ (count c s).port = s.port ∧ (count c s).mem = s.mem ∧
    (count c s).capture = s.capture ∧ (count c s).hold = s.hold ∧ (count c s).journal = s.journal ∧
    (count c s).copy = s.copy ∧ (count c s).session = s.session ∧ (count c s).tx = s.tx ∧ (count c s).rx = s.rx ∧
    (count c s).sender = s.sender ∧ (count c s).acker = s.acker ∧ (count c s).applyq = s.applyq ∧
    (count c s).pending = s.pending := by
  and_intros <;> rfl

@[simp] theorem finishHost_frame (c : Completion) (s : State) :
    (finishHost c s).inReset = s.inReset ∧ (finishHost c s).mgmt = s.mgmt ∧ (finishHost c s).events = s.events ∧
    (finishHost c s).counters = s.counters ∧ (finishHost c s).params = s.params ∧
    (finishHost c s).table = s.table ∧ (finishHost c s).part = s.part ∧ (finishHost c s).port = s.port ∧
    (finishHost c s).mem = s.mem ∧ (finishHost c s).capture = s.capture ∧ (finishHost c s).hold = s.hold ∧
    (finishHost c s).journal = s.journal ∧ (finishHost c s).copy = s.copy ∧ (finishHost c s).session = s.session ∧
    (finishHost c s).tx = s.tx ∧ (finishHost c s).rx = s.rx ∧ (finishHost c s).sender = s.sender ∧
    (finishHost c s).acker = s.acker ∧ (finishHost c s).applyq = s.applyq ∧
    (finishHost c s).pending = s.pending := by
  and_intros <;> rfl

@[simp] theorem completeHeld_frame (s : State) :
    (completeHeld s).inReset = s.inReset ∧ (completeHeld s).mgmt = s.mgmt ∧ (completeHeld s).events = s.events ∧
    (completeHeld s).counters = s.counters ∧ (completeHeld s).params = s.params ∧
    (completeHeld s).table = s.table ∧ (completeHeld s).part = s.part ∧ (completeHeld s).port = s.port ∧
    (completeHeld s).mem = s.mem ∧ (completeHeld s).capture = s.capture ∧ (completeHeld s).hold = s.hold ∧
    (completeHeld s).journal = s.journal ∧ (completeHeld s).copy = s.copy ∧ (completeHeld s).session = s.session ∧
    (completeHeld s).tx = s.tx ∧ (completeHeld s).rx = s.rx ∧ (completeHeld s).sender = s.sender ∧
    (completeHeld s).acker = s.acker ∧ (completeHeld s).applyq = s.applyq ∧
    (completeHeld s).pending = s.pending := by
  simp only [completeHeld]; (repeat' split) <;> simp

@[simp] theorem endHold_frame (o : HoldOutcome) (s : State) :
    (endHold o s).inReset = s.inReset ∧ (endHold o s).mgmt = s.mgmt ∧ (endHold o s).events = s.events ∧
    (endHold o s).counters = s.counters ∧ (endHold o s).params = s.params ∧ (endHold o s).table = s.table ∧
    (endHold o s).part = s.part ∧ (endHold o s).port = s.port ∧ (endHold o s).mem = s.mem ∧
    (endHold o s).capture = s.capture ∧ (endHold o s).journal = s.journal ∧ (endHold o s).copy = s.copy ∧
    (endHold o s).session = s.session ∧ (endHold o s).tx = s.tx ∧ (endHold o s).rx = s.rx ∧
    (endHold o s).sender = s.sender ∧ (endHold o s).acker = s.acker ∧ (endHold o s).applyq = s.applyq ∧
    (endHold o s).pending = s.pending := by
  simp [endHold]

@[simp] theorem endStall_frame (s : State) :
    (endStall s).inReset = s.inReset ∧ (endStall s).mgmt = s.mgmt ∧ (endStall s).events = s.events ∧
    (endStall s).counters = s.counters ∧ (endStall s).params = s.params ∧ (endStall s).table = s.table ∧
    (endStall s).part = s.part ∧ (endStall s).port = s.port ∧ (endStall s).mem = s.mem ∧
    (endStall s).hold = s.hold ∧ (endStall s).journal = s.journal ∧ (endStall s).copy = s.copy ∧
    (endStall s).session = s.session ∧ (endStall s).tx = s.tx ∧ (endStall s).rx = s.rx ∧
    (endStall s).sender = s.sender ∧ (endStall s).acker = s.acker ∧ (endStall s).applyq = s.applyq ∧
    (endStall s).pending = s.pending := by
  simp only [endStall]; (repeat' split) <;> simp

@[simp] theorem represent_frame (s : State) :
    (represent s).inReset = s.inReset ∧ (represent s).mgmt = s.mgmt ∧ (represent s).events = s.events ∧
    (represent s).counters = s.counters ∧ (represent s).params = s.params ∧ (represent s).table = s.table ∧
    (represent s).part = s.part ∧ (represent s).port = s.port ∧ (represent s).mem = s.mem ∧
    (represent s).capture = s.capture ∧ (represent s).hold = s.hold ∧ (represent s).journal = s.journal ∧
    (represent s).copy = s.copy ∧ (represent s).session = s.session ∧ (represent s).tx = s.tx ∧
    (represent s).rx = s.rx ∧ (represent s).sender = s.sender ∧ (represent s).acker = s.acker ∧
    (represent s).applyq = s.applyq ∧ (represent s).pending = s.pending := by
  simp only [represent]; (repeat' split) <;> simp

@[simp] theorem degrade_frame (s : State) :
    (degrade s).inReset = s.inReset ∧ (degrade s).mgmt = s.mgmt ∧ (degrade s).params = s.params ∧
    (degrade s).table = s.table ∧ (degrade s).part = s.part ∧ (degrade s).host = s.host ∧
    (degrade s).port = s.port ∧ (degrade s).mem = s.mem ∧ (degrade s).capture = s.capture ∧
    (degrade s).hold = s.hold ∧ (degrade s).journal = s.journal ∧ (degrade s).copy = s.copy ∧
    (degrade s).session = s.session ∧ (degrade s).tx = s.tx ∧ (degrade s).rx = s.rx ∧
    (degrade s).sender = s.sender ∧ (degrade s).acker = s.acker ∧ (degrade s).applyq = s.applyq ∧
    (degrade s).pending = s.pending := by
  and_intros <;> rfl

@[simp] theorem withdrawCopy_frame (s : State) :
    (withdrawCopy s).inReset = s.inReset ∧ (withdrawCopy s).mgmt = s.mgmt ∧ (withdrawCopy s).events = s.events ∧
    (withdrawCopy s).counters = s.counters ∧ (withdrawCopy s).params = s.params ∧
    (withdrawCopy s).table = s.table ∧ (withdrawCopy s).part = s.part ∧ (withdrawCopy s).host = s.host ∧
    (withdrawCopy s).port = s.port ∧ (withdrawCopy s).mem = s.mem ∧ (withdrawCopy s).capture = s.capture ∧
    (withdrawCopy s).hold = s.hold ∧ (withdrawCopy s).journal = s.journal ∧ (withdrawCopy s).session = s.session ∧
    (withdrawCopy s).tx = s.tx ∧ (withdrawCopy s).rx = s.rx ∧ (withdrawCopy s).sender = s.sender ∧
    (withdrawCopy s).acker = s.acker ∧ (withdrawCopy s).applyq = s.applyq ∧
    (withdrawCopy s).pending = s.pending := by
  simp only [withdrawCopy]; (repeat' split) <;> simp

@[simp] theorem sealOpen_frame (s : State) :
    (sealOpen s).inReset = s.inReset ∧ (sealOpen s).mgmt = s.mgmt ∧ (sealOpen s).events = s.events ∧
    (sealOpen s).counters = s.counters ∧ (sealOpen s).params = s.params ∧ (sealOpen s).table = s.table ∧
    (sealOpen s).part = s.part ∧ (sealOpen s).host = s.host ∧ (sealOpen s).port = s.port ∧
    (sealOpen s).mem = s.mem ∧ (sealOpen s).hold = s.hold ∧ (sealOpen s).copy = s.copy ∧
    (sealOpen s).session = s.session ∧ (sealOpen s).tx = s.tx ∧ (sealOpen s).rx = s.rx ∧
    (sealOpen s).sender = s.sender ∧ (sealOpen s).acker = s.acker ∧ (sealOpen s).applyq = s.applyq ∧
    (sealOpen s).pending = s.pending := by
  and_intros <;> rfl

@[simp] theorem pushEntry_frame (c : Content) (st : EntryState) (s : State) :
    (pushEntry c st s).inReset = s.inReset ∧ (pushEntry c st s).mgmt = s.mgmt ∧
    (pushEntry c st s).events = s.events ∧ (pushEntry c st s).counters = s.counters ∧
    (pushEntry c st s).params = s.params ∧ (pushEntry c st s).table = s.table ∧ (pushEntry c st s).part = s.part ∧
    (pushEntry c st s).host = s.host ∧ (pushEntry c st s).port = s.port ∧ (pushEntry c st s).mem = s.mem ∧
    (pushEntry c st s).capture = s.capture ∧ (pushEntry c st s).hold = s.hold ∧ (pushEntry c st s).copy = s.copy ∧
    (pushEntry c st s).session = s.session ∧ (pushEntry c st s).tx = s.tx ∧ (pushEntry c st s).rx = s.rx ∧
    (pushEntry c st s).sender = s.sender ∧ (pushEntry c st s).acker = s.acker ∧
    (pushEntry c st s).applyq = s.applyq ∧ (pushEntry c st s).pending = s.pending := by
  and_intros <;> rfl

@[simp] theorem openEntry_frame (r : Run) (s : State) :
    (openEntry r s).inReset = s.inReset ∧ (openEntry r s).mgmt = s.mgmt ∧ (openEntry r s).events = s.events ∧
    (openEntry r s).counters = s.counters ∧ (openEntry r s).params = s.params ∧ (openEntry r s).table = s.table ∧
    (openEntry r s).part = s.part ∧ (openEntry r s).host = s.host ∧ (openEntry r s).port = s.port ∧
    (openEntry r s).mem = s.mem ∧ (openEntry r s).hold = s.hold ∧ (openEntry r s).session = s.session ∧
    (openEntry r s).tx = s.tx ∧ (openEntry r s).rx = s.rx ∧ (openEntry r s).sender = s.sender ∧
    (openEntry r s).acker = s.acker ∧ (openEntry r s).applyq = s.applyq ∧ (openEntry r s).pending = s.pending := by
  simp [openEntry]

@[simp] theorem append_frame (c : Content) (s : State) :
    (append c s).inReset = s.inReset ∧ (append c s).mgmt = s.mgmt ∧ (append c s).events = s.events ∧
    (append c s).counters = s.counters ∧ (append c s).params = s.params ∧ (append c s).table = s.table ∧
    (append c s).part = s.part ∧ (append c s).host = s.host ∧ (append c s).port = s.port ∧
    (append c s).mem = s.mem ∧ (append c s).hold = s.hold ∧ (append c s).session = s.session ∧
    (append c s).tx = s.tx ∧ (append c s).rx = s.rx ∧ (append c s).sender = s.sender ∧
    (append c s).acker = s.acker ∧ (append c s).applyq = s.applyq ∧ (append c s).pending = s.pending := by
  simp [append]

@[simp] theorem release_frame (n : Seq) (s : State) :
    (release n s).inReset = s.inReset ∧ (release n s).mgmt = s.mgmt ∧ (release n s).events = s.events ∧
    (release n s).counters = s.counters ∧ (release n s).params = s.params ∧ (release n s).table = s.table ∧
    (release n s).part = s.part ∧ (release n s).port = s.port ∧ (release n s).mem = s.mem ∧
    (release n s).copy = s.copy ∧ (release n s).tx = s.tx ∧ (release n s).rx = s.rx ∧
    (release n s).acker = s.acker ∧ (release n s).applyq = s.applyq ∧ (release n s).pending = s.pending := by
  simp only [release]; (repeat' split) <;> simp

@[simp] theorem rewind_frame (m : Seq) (s : State) :
    (rewind m s).inReset = s.inReset ∧ (rewind m s).mgmt = s.mgmt ∧ (rewind m s).events = s.events ∧
    (rewind m s).counters = s.counters ∧ (rewind m s).params = s.params ∧ (rewind m s).table = s.table ∧
    (rewind m s).part = s.part ∧ (rewind m s).host = s.host ∧ (rewind m s).port = s.port ∧
    (rewind m s).mem = s.mem ∧ (rewind m s).capture = s.capture ∧ (rewind m s).hold = s.hold ∧
    (rewind m s).copy = s.copy ∧ (rewind m s).session = s.session ∧ (rewind m s).tx = s.tx ∧
    (rewind m s).rx = s.rx ∧ (rewind m s).sender = s.sender ∧ (rewind m s).acker = s.acker ∧
    (rewind m s).applyq = s.applyq ∧ (rewind m s).pending = s.pending := by
  simp only [rewind]; (repeat' split) <;> simp

@[simp] theorem takeHeldRewind_frame (s : State) :
    (takeHeldRewind s).inReset = s.inReset ∧ (takeHeldRewind s).mgmt = s.mgmt ∧
    (takeHeldRewind s).events = s.events ∧ (takeHeldRewind s).counters = s.counters ∧
    (takeHeldRewind s).params = s.params ∧ (takeHeldRewind s).table = s.table ∧ (takeHeldRewind s).part = s.part ∧
    (takeHeldRewind s).host = s.host ∧ (takeHeldRewind s).port = s.port ∧ (takeHeldRewind s).mem = s.mem ∧
    (takeHeldRewind s).capture = s.capture ∧ (takeHeldRewind s).hold = s.hold ∧ (takeHeldRewind s).copy = s.copy ∧
    (takeHeldRewind s).session = s.session ∧ (takeHeldRewind s).tx = s.tx ∧ (takeHeldRewind s).rx = s.rx ∧
    (takeHeldRewind s).sender = s.sender ∧ (takeHeldRewind s).acker = s.acker ∧
    (takeHeldRewind s).applyq = s.applyq ∧ (takeHeldRewind s).pending = s.pending := by
  simp only [takeHeldRewind]; (repeat' split) <;> simp

@[simp] theorem requestRewind_frame (m : Seq) (s : State) :
    (requestRewind m s).inReset = s.inReset ∧ (requestRewind m s).mgmt = s.mgmt ∧
    (requestRewind m s).events = s.events ∧ (requestRewind m s).counters = s.counters ∧
    (requestRewind m s).params = s.params ∧ (requestRewind m s).table = s.table ∧
    (requestRewind m s).part = s.part ∧ (requestRewind m s).host = s.host ∧ (requestRewind m s).port = s.port ∧
    (requestRewind m s).mem = s.mem ∧ (requestRewind m s).capture = s.capture ∧ (requestRewind m s).hold = s.hold ∧
    (requestRewind m s).copy = s.copy ∧ (requestRewind m s).session = s.session ∧ (requestRewind m s).tx = s.tx ∧
    (requestRewind m s).rx = s.rx ∧ (requestRewind m s).sender = s.sender ∧ (requestRewind m s).acker = s.acker ∧
    (requestRewind m s).applyq = s.applyq ∧ (requestRewind m s).pending = s.pending := by
  simp only [requestRewind]; (repeat' split) <;> simp

@[simp] theorem discardJournal_frame (s : State) :
    (discardJournal s).inReset = s.inReset ∧ (discardJournal s).mgmt = s.mgmt ∧
    (discardJournal s).params = s.params ∧ (discardJournal s).table = s.table ∧ (discardJournal s).part = s.part ∧
    (discardJournal s).port = s.port ∧ (discardJournal s).mem = s.mem ∧ (discardJournal s).copy = s.copy ∧
    (discardJournal s).session = s.session ∧ (discardJournal s).tx = s.tx ∧ (discardJournal s).rx = s.rx ∧
    (discardJournal s).sender = s.sender ∧ (discardJournal s).acker = s.acker ∧
    (discardJournal s).applyq = s.applyq ∧ (discardJournal s).pending = s.pending := by
  simp only [discardJournal]; (repeat' split) <;> simp

@[simp] theorem abortFrame_frame (s : State) :
    (abortFrame s).inReset = s.inReset ∧ (abortFrame s).mgmt = s.mgmt ∧ (abortFrame s).events = s.events ∧
    (abortFrame s).counters = s.counters ∧ (abortFrame s).params = s.params ∧ (abortFrame s).table = s.table ∧
    (abortFrame s).part = s.part ∧ (abortFrame s).host = s.host ∧ (abortFrame s).port = s.port ∧
    (abortFrame s).mem = s.mem ∧ (abortFrame s).capture = s.capture ∧ (abortFrame s).hold = s.hold ∧
    (abortFrame s).copy = s.copy ∧ (abortFrame s).session = s.session ∧ (abortFrame s).rx = s.rx ∧
    (abortFrame s).sender = s.sender ∧ (abortFrame s).acker = s.acker ∧ (abortFrame s).applyq = s.applyq ∧
    (abortFrame s).pending = s.pending := by
  simp only [abortFrame]; (repeat' split) <;> simp

@[simp] theorem askHello_frame (s : State) :
    (askHello s).inReset = s.inReset ∧ (askHello s).mgmt = s.mgmt ∧ (askHello s).events = s.events ∧
    (askHello s).counters = s.counters ∧ (askHello s).params = s.params ∧ (askHello s).table = s.table ∧
    (askHello s).part = s.part ∧ (askHello s).host = s.host ∧ (askHello s).port = s.port ∧
    (askHello s).mem = s.mem ∧ (askHello s).capture = s.capture ∧ (askHello s).hold = s.hold ∧
    (askHello s).journal = s.journal ∧ (askHello s).copy = s.copy ∧ (askHello s).session = s.session ∧
    (askHello s).rx = s.rx ∧ (askHello s).sender = s.sender ∧ (askHello s).acker = s.acker ∧
    (askHello s).applyq = s.applyq ∧ (askHello s).pending = s.pending := by
  and_intros <;> rfl

@[simp] theorem startHelloTimer_frame (s : State) :
    (startHelloTimer s).inReset = s.inReset ∧ (startHelloTimer s).mgmt = s.mgmt ∧
    (startHelloTimer s).events = s.events ∧ (startHelloTimer s).counters = s.counters ∧
    (startHelloTimer s).params = s.params ∧ (startHelloTimer s).table = s.table ∧
    (startHelloTimer s).part = s.part ∧ (startHelloTimer s).host = s.host ∧ (startHelloTimer s).port = s.port ∧
    (startHelloTimer s).mem = s.mem ∧ (startHelloTimer s).capture = s.capture ∧ (startHelloTimer s).hold = s.hold ∧
    (startHelloTimer s).journal = s.journal ∧ (startHelloTimer s).copy = s.copy ∧ (startHelloTimer s).tx = s.tx ∧
    (startHelloTimer s).rx = s.rx ∧ (startHelloTimer s).sender = s.sender ∧ (startHelloTimer s).acker = s.acker ∧
    (startHelloTimer s).applyq = s.applyq ∧ (startHelloTimer s).pending = s.pending := by
  and_intros <;> rfl

@[simp] theorem enterSeek_frame (s : State) :
    (enterSeek s).inReset = s.inReset ∧ (enterSeek s).mgmt = s.mgmt ∧ (enterSeek s).events = s.events ∧
    (enterSeek s).counters = s.counters ∧ (enterSeek s).params = s.params ∧ (enterSeek s).table = s.table ∧
    (enterSeek s).part = s.part ∧ (enterSeek s).host = s.host ∧ (enterSeek s).port = s.port ∧
    (enterSeek s).mem = s.mem ∧ (enterSeek s).capture = s.capture ∧ (enterSeek s).hold = s.hold ∧
    (enterSeek s).journal = s.journal ∧ (enterSeek s).copy = s.copy ∧ (enterSeek s).rx = s.rx ∧
    (enterSeek s).sender = s.sender ∧ (enterSeek s).acker = s.acker ∧ (enterSeek s).applyq = s.applyq ∧
    (enterSeek s).pending = s.pending := by
  simp [enterSeek]

@[simp] theorem leaveUp_frame (r : LossReason) (s : State) :
    (leaveUp r s).inReset = s.inReset ∧ (leaveUp r s).mgmt = s.mgmt ∧ (leaveUp r s).params = s.params ∧
    (leaveUp r s).table = s.table ∧ (leaveUp r s).part = s.part ∧ (leaveUp r s).host = s.host ∧
    (leaveUp r s).port = s.port ∧ (leaveUp r s).mem = s.mem ∧ (leaveUp r s).capture = s.capture ∧
    (leaveUp r s).hold = s.hold ∧ (leaveUp r s).applyq = s.applyq ∧ (leaveUp r s).pending = s.pending := by
  simp only [leaveUp]; (repeat' split) <;> simp

@[simp] theorem loseSession_frame (r : LossReason) (s : State) :
    (loseSession r s).inReset = s.inReset ∧ (loseSession r s).mgmt = s.mgmt ∧ (loseSession r s).params = s.params ∧
    (loseSession r s).table = s.table ∧ (loseSession r s).part = s.part ∧ (loseSession r s).host = s.host ∧
    (loseSession r s).port = s.port ∧ (loseSession r s).mem = s.mem ∧ (loseSession r s).capture = s.capture ∧
    (loseSession r s).hold = s.hold ∧ (loseSession r s).applyq = s.applyq ∧
    (loseSession r s).pending = s.pending := by
  simp [loseSession]

@[simp] theorem enterClosing_frame (s : State) :
    (enterClosing s).inReset = s.inReset ∧ (enterClosing s).mgmt = s.mgmt ∧ (enterClosing s).events = s.events ∧
    (enterClosing s).counters = s.counters ∧ (enterClosing s).params = s.params ∧
    (enterClosing s).table = s.table ∧ (enterClosing s).part = s.part ∧ (enterClosing s).host = s.host ∧
    (enterClosing s).port = s.port ∧ (enterClosing s).mem = s.mem ∧ (enterClosing s).capture = s.capture ∧
    (enterClosing s).hold = s.hold ∧ (enterClosing s).copy = s.copy ∧ (enterClosing s).rx = s.rx ∧
    (enterClosing s).sender = s.sender ∧ (enterClosing s).acker = s.acker ∧ (enterClosing s).applyq = s.applyq ∧
    (enterClosing s).pending = s.pending := by
  simp [enterClosing]

@[simp] theorem enterOff_frame (s : State) :
    (enterOff s).inReset = s.inReset ∧ (enterOff s).mgmt = s.mgmt ∧ (enterOff s).events = s.events ∧
    (enterOff s).counters = s.counters ∧ (enterOff s).params = s.params ∧ (enterOff s).table = s.table ∧
    (enterOff s).part = s.part ∧ (enterOff s).host = s.host ∧ (enterOff s).port = s.port ∧
    (enterOff s).mem = s.mem ∧ (enterOff s).capture = s.capture ∧ (enterOff s).hold = s.hold ∧
    (enterOff s).copy = s.copy ∧ (enterOff s).sender = s.sender ∧ (enterOff s).acker = s.acker ∧
    (enterOff s).applyq = s.applyq ∧ (enterOff s).pending = s.pending := by
  simp [enterOff]

@[simp] theorem enterFault_frame (c : FaultCause) (s : State) :
    (enterFault c s).inReset = s.inReset ∧ (enterFault c s).mgmt = s.mgmt ∧ (enterFault c s).params = s.params ∧
    (enterFault c s).table = s.table ∧ (enterFault c s).part = s.part ∧ (enterFault c s).host = s.host ∧
    (enterFault c s).port = s.port ∧ (enterFault c s).mem = s.mem ∧ (enterFault c s).capture = s.capture ∧
    (enterFault c s).hold = s.hold ∧ (enterFault c s).applyq = s.applyq ∧
    (enterFault c s).pending = s.pending := by
  simp only [enterFault]; (repeat' split) <;> simp

@[simp] theorem offerSynced_frame (s : State) :
    (offerSynced s).inReset = s.inReset ∧ (offerSynced s).mgmt = s.mgmt ∧ (offerSynced s).counters = s.counters ∧
    (offerSynced s).params = s.params ∧ (offerSynced s).table = s.table ∧ (offerSynced s).part = s.part ∧
    (offerSynced s).host = s.host ∧ (offerSynced s).port = s.port ∧ (offerSynced s).mem = s.mem ∧
    (offerSynced s).hold = s.hold ∧ (offerSynced s).session = s.session ∧ (offerSynced s).tx = s.tx ∧
    (offerSynced s).rx = s.rx ∧ (offerSynced s).sender = s.sender ∧ (offerSynced s).acker = s.acker ∧
    (offerSynced s).applyq = s.applyq ∧ (offerSynced s).pending = s.pending := by
  simp only [offerSynced]; (repeat' split) <;> simp

@[simp] theorem restartSession_frame (s : State) :
    (restartSession s).inReset = s.inReset ∧ (restartSession s).mgmt = s.mgmt ∧
    (restartSession s).params = s.params ∧ (restartSession s).table = s.table ∧ (restartSession s).part = s.part ∧
    (restartSession s).host = s.host ∧ (restartSession s).port = s.port ∧ (restartSession s).mem = s.mem ∧
    (restartSession s).capture = s.capture ∧ (restartSession s).hold = s.hold ∧
    (restartSession s).applyq = s.applyq ∧ (restartSession s).pending = s.pending := by
  simp only [restartSession]; (repeat' split) <;> simp

@[simp] theorem restart_frame (r : RestartReason) (s : State) :
    (restart r s).inReset = s.inReset ∧ (restart r s).mgmt = s.mgmt ∧ (restart r s).params = s.params ∧
    (restart r s).table = s.table ∧ (restart r s).part = s.part ∧ (restart r s).port = s.port ∧
    (restart r s).mem = s.mem ∧ (restart r s).applyq = s.applyq ∧ (restart r s).pending = s.pending := by
  simp [restart]

@[simp] theorem completeCommit_frame (s : State) :
    (completeCommit s).inReset = s.inReset ∧ (completeCommit s).mgmt = s.mgmt ∧
    (completeCommit s).counters = s.counters ∧ (completeCommit s).params = s.params ∧
    (completeCommit s).part = s.part ∧ (completeCommit s).host = s.host ∧ (completeCommit s).port = s.port ∧
    (completeCommit s).mem = s.mem ∧ (completeCommit s).hold = s.hold ∧ (completeCommit s).session = s.session ∧
    (completeCommit s).tx = s.tx ∧ (completeCommit s).rx = s.rx ∧ (completeCommit s).sender = s.sender ∧
    (completeCommit s).acker = s.acker ∧ (completeCommit s).applyq = s.applyq ∧
    (completeCommit s).pending = s.pending := by
  simp [completeCommit]

@[simp] theorem offerCommit_frame (s : State) :
    (offerCommit s).inReset = s.inReset ∧ (offerCommit s).mgmt = s.mgmt ∧ (offerCommit s).counters = s.counters ∧
    (offerCommit s).params = s.params ∧ (offerCommit s).part = s.part ∧ (offerCommit s).host = s.host ∧
    (offerCommit s).port = s.port ∧ (offerCommit s).mem = s.mem ∧ (offerCommit s).hold = s.hold ∧
    (offerCommit s).session = s.session ∧ (offerCommit s).tx = s.tx ∧ (offerCommit s).rx = s.rx ∧
    (offerCommit s).sender = s.sender ∧ (offerCommit s).acker = s.acker ∧ (offerCommit s).applyq = s.applyq ∧
    (offerCommit s).pending = s.pending := by
  simp only [offerCommit]; (repeat' split) <;> simp

@[simp] theorem pendLink_frame (s : State) :
    (pendLink s).inReset = s.inReset ∧ (pendLink s).mgmt = s.mgmt ∧ (pendLink s).events = s.events ∧
    (pendLink s).counters = s.counters ∧ (pendLink s).params = s.params ∧ (pendLink s).table = s.table ∧
    (pendLink s).part = s.part ∧ (pendLink s).host = s.host ∧ (pendLink s).port = s.port ∧
    (pendLink s).mem = s.mem ∧ (pendLink s).capture = s.capture ∧ (pendLink s).hold = s.hold ∧
    (pendLink s).journal = s.journal ∧ (pendLink s).copy = s.copy ∧ (pendLink s).session = s.session ∧
    (pendLink s).tx = s.tx ∧ (pendLink s).rx = s.rx ∧ (pendLink s).sender = s.sender ∧
    (pendLink s).applyq = s.applyq ∧ (pendLink s).pending = s.pending := by
  and_intros <;> rfl

@[simp] theorem rearmNak_frame (s : State) :
    (rearmNak s).inReset = s.inReset ∧ (rearmNak s).mgmt = s.mgmt ∧ (rearmNak s).events = s.events ∧
    (rearmNak s).counters = s.counters ∧ (rearmNak s).params = s.params ∧ (rearmNak s).table = s.table ∧
    (rearmNak s).part = s.part ∧ (rearmNak s).host = s.host ∧ (rearmNak s).port = s.port ∧
    (rearmNak s).mem = s.mem ∧ (rearmNak s).capture = s.capture ∧ (rearmNak s).hold = s.hold ∧
    (rearmNak s).journal = s.journal ∧ (rearmNak s).copy = s.copy ∧ (rearmNak s).session = s.session ∧
    (rearmNak s).tx = s.tx ∧ (rearmNak s).rx = s.rx ∧ (rearmNak s).sender = s.sender ∧
    (rearmNak s).applyq = s.applyq ∧ (rearmNak s).pending = s.pending := by
  and_intros <;> rfl

@[simp] theorem completeEntry_frame (q : Seq) (s : State) :
    (completeEntry q s).inReset = s.inReset ∧ (completeEntry q s).mgmt = s.mgmt ∧
    (completeEntry q s).events = s.events ∧ (completeEntry q s).counters = s.counters ∧
    (completeEntry q s).params = s.params ∧ (completeEntry q s).table = s.table ∧
    (completeEntry q s).part = s.part ∧ (completeEntry q s).host = s.host ∧ (completeEntry q s).port = s.port ∧
    (completeEntry q s).mem = s.mem ∧ (completeEntry q s).capture = s.capture ∧ (completeEntry q s).hold = s.hold ∧
    (completeEntry q s).journal = s.journal ∧ (completeEntry q s).copy = s.copy ∧
    (completeEntry q s).session = s.session ∧ (completeEntry q s).tx = s.tx ∧ (completeEntry q s).rx = s.rx ∧
    (completeEntry q s).sender = s.sender ∧ (completeEntry q s).pending = s.pending := by
  and_intros <;> rfl

@[simp] theorem leaveSecondary_frame (s : State) :
    (leaveSecondary s).inReset = s.inReset ∧ (leaveSecondary s).mgmt = s.mgmt ∧
    (leaveSecondary s).events = s.events ∧ (leaveSecondary s).counters = s.counters ∧
    (leaveSecondary s).params = s.params ∧ (leaveSecondary s).table = s.table ∧ (leaveSecondary s).part = s.part ∧
    (leaveSecondary s).host = s.host ∧ (leaveSecondary s).port = s.port ∧ (leaveSecondary s).mem = s.mem ∧
    (leaveSecondary s).capture = s.capture ∧ (leaveSecondary s).hold = s.hold ∧
    (leaveSecondary s).journal = s.journal ∧ (leaveSecondary s).copy = s.copy ∧
    (leaveSecondary s).session = s.session ∧ (leaveSecondary s).tx = s.tx ∧ (leaveSecondary s).rx = s.rx ∧
    (leaveSecondary s).sender = s.sender ∧ (leaveSecondary s).applyq = s.applyq ∧
    (leaveSecondary s).pending = s.pending := by
  and_intros <;> rfl

@[simp] theorem clearSender_frame (s : State) :
    (clearSender s).inReset = s.inReset ∧ (clearSender s).mgmt = s.mgmt ∧ (clearSender s).events = s.events ∧
    (clearSender s).counters = s.counters ∧ (clearSender s).params = s.params ∧ (clearSender s).table = s.table ∧
    (clearSender s).part = s.part ∧ (clearSender s).host = s.host ∧ (clearSender s).port = s.port ∧
    (clearSender s).mem = s.mem ∧ (clearSender s).capture = s.capture ∧ (clearSender s).hold = s.hold ∧
    (clearSender s).journal = s.journal ∧ (clearSender s).copy = s.copy ∧ (clearSender s).session = s.session ∧
    (clearSender s).tx = s.tx ∧ (clearSender s).rx = s.rx ∧ (clearSender s).acker = s.acker ∧
    (clearSender s).applyq = s.applyq ∧ (clearSender s).pending = s.pending := by
  and_intros <;> rfl

@[simp] theorem clearRejectRestarts_frame (s : State) :
    (clearRejectRestarts s).inReset = s.inReset ∧ (clearRejectRestarts s).mgmt = s.mgmt ∧
    (clearRejectRestarts s).events = s.events ∧ (clearRejectRestarts s).counters = s.counters ∧
    (clearRejectRestarts s).params = s.params ∧ (clearRejectRestarts s).table = s.table ∧
    (clearRejectRestarts s).part = s.part ∧ (clearRejectRestarts s).host = s.host ∧
    (clearRejectRestarts s).port = s.port ∧ (clearRejectRestarts s).mem = s.mem ∧
    (clearRejectRestarts s).capture = s.capture ∧ (clearRejectRestarts s).hold = s.hold ∧
    (clearRejectRestarts s).journal = s.journal ∧ (clearRejectRestarts s).copy = s.copy ∧
    (clearRejectRestarts s).tx = s.tx ∧ (clearRejectRestarts s).rx = s.rx ∧
    (clearRejectRestarts s).sender = s.sender ∧ (clearRejectRestarts s).acker = s.acker ∧
    (clearRejectRestarts s).applyq = s.applyq ∧ (clearRejectRestarts s).pending = s.pending := by
  and_intros <;> rfl

@[simp] theorem completePromotion_frame (s : State) :
    (completePromotion s).inReset = s.inReset ∧ (completePromotion s).mgmt = s.mgmt ∧
    (completePromotion s).params = s.params ∧ (completePromotion s).table = s.table ∧
    (completePromotion s).port = s.port ∧ (completePromotion s).mem = s.mem ∧
    (completePromotion s).applyq = s.applyq ∧ (completePromotion s).pending = s.pending := by
  simp [completePromotion]

@[simp] theorem endPromotion_frame (s : State) :
    (endPromotion s).inReset = s.inReset ∧ (endPromotion s).mgmt = s.mgmt ∧ (endPromotion s).params = s.params ∧
    (endPromotion s).table = s.table ∧ (endPromotion s).port = s.port ∧ (endPromotion s).mem = s.mem ∧
    (endPromotion s).applyq = s.applyq ∧ (endPromotion s).pending = s.pending := by
  simp only [endPromotion]; (repeat' split) <;> simp

/-- Without a promotion pending, or with entries left, a promotion's completion does not come. -/
theorem endPromotion_of_draining (s : State) (h : s.part.promotionPending = false ∨ s.applyq.count ≠ 0) :
    endPromotion s = s := by
  simp only [endPromotion]; split <;> simp_all

/-- A pending promotion completes on an empty apply queue. -/
theorem endPromotion_of_drained (s : State) (hp : s.part.promotionPending = true) (hc : s.applyq.count = 0) :
    endPromotion s = completePromotion s := by
  simp [endPromotion, hp, hc]

@[simp] theorem finishEntry_frame (q : Seq) (s : State) :
    (finishEntry q s).inReset = s.inReset ∧ (finishEntry q s).mgmt = s.mgmt ∧
    (finishEntry q s).params = s.params ∧ (finishEntry q s).table = s.table ∧ (finishEntry q s).port = s.port ∧
    (finishEntry q s).mem = s.mem ∧ (finishEntry q s).pending = s.pending := by
  simp [finishEntry]

@[simp] theorem performWrite_frame (w : HostWrite) (s : State) :
    (performWrite w s).inReset = s.inReset ∧ (performWrite w s).mgmt = s.mgmt ∧
    (performWrite w s).events = s.events ∧ (performWrite w s).counters = s.counters ∧
    (performWrite w s).params = s.params ∧ (performWrite w s).table = s.table ∧ (performWrite w s).part = s.part ∧
    (performWrite w s).capture = s.capture ∧ (performWrite w s).hold = s.hold ∧
    (performWrite w s).journal = s.journal ∧ (performWrite w s).copy = s.copy ∧
    (performWrite w s).session = s.session ∧ (performWrite w s).tx = s.tx ∧ (performWrite w s).rx = s.rx ∧
    (performWrite w s).sender = s.sender ∧ (performWrite w s).acker = s.acker ∧
    (performWrite w s).applyq = s.applyq ∧ (performWrite w s).pending = s.pending := by
  and_intros <;> rfl

@[simp] theorem takeHold_frame (s : State) :
    (takeHold s).inReset = s.inReset ∧ (takeHold s).mgmt = s.mgmt ∧ (takeHold s).events = s.events ∧
    (takeHold s).counters = s.counters ∧ (takeHold s).params = s.params ∧ (takeHold s).table = s.table ∧
    (takeHold s).part = s.part ∧ (takeHold s).host = s.host ∧ (takeHold s).port = s.port ∧
    (takeHold s).mem = s.mem ∧ (takeHold s).capture = s.capture ∧ (takeHold s).copy = s.copy ∧
    (takeHold s).session = s.session ∧ (takeHold s).tx = s.tx ∧ (takeHold s).rx = s.rx ∧
    (takeHold s).sender = s.sender ∧ (takeHold s).acker = s.acker ∧ (takeHold s).applyq = s.applyq ∧
    (takeHold s).pending = s.pending := by
  and_intros <;> rfl

@[simp] theorem afterCapture_frame (w : HostWrite) (m : Mode) (s : State) :
    (afterCapture w m s).inReset = s.inReset ∧ (afterCapture w m s).mgmt = s.mgmt ∧
    (afterCapture w m s).params = s.params ∧ (afterCapture w m s).table = s.table ∧
    (afterCapture w m s).part = s.part ∧ (afterCapture w m s).copy = s.copy ∧
    (afterCapture w m s).session = s.session ∧ (afterCapture w m s).tx = s.tx ∧ (afterCapture w m s).rx = s.rx ∧
    (afterCapture w m s).sender = s.sender ∧ (afterCapture w m s).acker = s.acker ∧
    (afterCapture w m s).applyq = s.applyq ∧ (afterCapture w m s).pending = s.pending := by
  simp only [afterCapture]; (repeat' split) <;> simp

@[simp] theorem stallWrite_frame (w : HostWrite) (s : State) :
    (stallWrite w s).inReset = s.inReset ∧ (stallWrite w s).mgmt = s.mgmt ∧ (stallWrite w s).params = s.params ∧
    (stallWrite w s).table = s.table ∧ (stallWrite w s).part = s.part ∧ (stallWrite w s).port = s.port ∧
    (stallWrite w s).mem = s.mem ∧ (stallWrite w s).applyq = s.applyq ∧ (stallWrite w s).pending = s.pending := by
  simp only [stallWrite]; (repeat' split) <;> simp

@[simp] theorem openOrStall_frame (w : HostWrite) (id : WindowId) (m : Mode) (s : State) :
    (openOrStall w id m s).inReset = s.inReset ∧ (openOrStall w id m s).mgmt = s.mgmt ∧
    (openOrStall w id m s).params = s.params ∧ (openOrStall w id m s).table = s.table ∧
    (openOrStall w id m s).part = s.part ∧ (openOrStall w id m s).applyq = s.applyq ∧
    (openOrStall w id m s).pending = s.pending := by
  simp only [openOrStall]; (repeat' split) <;> simp

@[simp] theorem captureWrite_frame (w : HostWrite) (id : WindowId) (m : Mode) (s : State) :
    (captureWrite w id m s).inReset = s.inReset ∧ (captureWrite w id m s).mgmt = s.mgmt ∧
    (captureWrite w id m s).params = s.params ∧ (captureWrite w id m s).table = s.table ∧
    (captureWrite w id m s).part = s.part ∧ (captureWrite w id m s).applyq = s.applyq ∧
    (captureWrite w id m s).pending = s.pending := by
  simp only [captureWrite]; (repeat' split) <;> simp

@[simp] theorem grantWrite_frame (w : HostWrite) (s : State) :
    (grantWrite w s).inReset = s.inReset ∧ (grantWrite w s).mgmt = s.mgmt ∧ (grantWrite w s).params = s.params ∧
    (grantWrite w s).table = s.table ∧ (grantWrite w s).part = s.part ∧ (grantWrite w s).applyq = s.applyq ∧
    (grantWrite w s).pending = s.pending := by
  simp only [grantWrite]; (repeat' split) <;> simp

@[simp] theorem grantHost_frame (s : State) :
    (grantHost s).inReset = s.inReset ∧ (grantHost s).mgmt = s.mgmt ∧ (grantHost s).params = s.params ∧
    (grantHost s).table = s.table ∧ (grantHost s).part = s.part ∧ (grantHost s).applyq = s.applyq ∧
    (grantHost s).pending = s.pending := by
  simp only [grantHost]; (repeat' split) <;> simp

@[simp] theorem grantEngine_frame (s : State) :
    (grantEngine s).inReset = s.inReset ∧ (grantEngine s).mgmt = s.mgmt ∧ (grantEngine s).events = s.events ∧
    (grantEngine s).counters = s.counters ∧ (grantEngine s).params = s.params ∧ (grantEngine s).table = s.table ∧
    (grantEngine s).part = s.part ∧ (grantEngine s).host = s.host ∧ (grantEngine s).mem = s.mem ∧
    (grantEngine s).capture = s.capture ∧ (grantEngine s).hold = s.hold ∧ (grantEngine s).journal = s.journal ∧
    (grantEngine s).session = s.session ∧ (grantEngine s).tx = s.tx ∧ (grantEngine s).rx = s.rx ∧
    (grantEngine s).sender = s.sender ∧ (grantEngine s).acker = s.acker ∧ (grantEngine s).pending = s.pending := by
  simp only [grantEngine]; (repeat' split) <;> simp

@[simp] theorem grantOnce_frame (s : State) :
    (grantOnce s).inReset = s.inReset ∧ (grantOnce s).mgmt = s.mgmt ∧ (grantOnce s).params = s.params ∧
    (grantOnce s).table = s.table ∧ (grantOnce s).part = s.part ∧ (grantOnce s).pending = s.pending := by
  simp only [grantOnce]; (repeat' split) <;> simp

@[simp] theorem arbitrate_frame (s : State) :
    (arbitrate s).inReset = s.inReset ∧ (arbitrate s).mgmt = s.mgmt ∧ (arbitrate s).params = s.params ∧
    (arbitrate s).table = s.table ∧ (arbitrate s).part = s.part ∧ (arbitrate s).pending = s.pending := by
  simp [arbitrate]

end Sys2Proof.Machine
end

