-- ==== Sys2Proof/Laws/Commands.lean ====
section
/-! SUPPORT. What a command's shell does: a command outside a reset, a management command in COMMAND with all its
argument bytes, a good frame, and the step on a queue. -/

namespace Sys2Proof.Machine

/-- Outside a reset a working command has its effect. -/
theorem working_of_running (f : State → State) (s : State) (h : s.inReset = false) : working f s = .next (f s) := by
  simp [working, h]

/-- While a reset lasts a working command changes nothing. -/
theorem working_in_reset (f : State → State) (s : State) (h : s.inReset = true) : working f s = .next s := by
  simp [working, h]

/-- A management command in COMMAND with all its argument bytes takes effect, and the response is formed. -/
theorem takeCommand_complete (cmd : MgmtCommand) (args : List Byte) (effect : List Byte → State → Answer) (s : State)
    (hp : s.mgmt.phase = .command) (hl : args.length = cmd.argCount) :
    takeCommand cmd args effect s = respond (cmd == .softReset) (effect args s) := by
  have : args.take cmd.argCount = args := by rw [← hl, List.take_length]
  simp [takeCommand, feedCommand, hp, hl, this]

/-- A management command in COMMAND with too few argument bytes waits in ARGUMENTS. -/
theorem takeCommand_short (cmd : MgmtCommand) (args : List Byte) (effect : List Byte → State → Answer) (s : State)
    (hp : s.mgmt.phase = .command) (hl : args.length < cmd.argCount) :
    takeCommand cmd args effect s = s.setMgmt { s.mgmt with phase := .arguments cmd args } := by
  simp [takeCommand, feedCommand, hp, hl]

/-- A good frame with nothing else on its way is handled by an aligned receiver in SEEK and UP. -/
theorem dispatch_empty (f : Frame) (handle : State → State) (s : State) (hg : s.rx.good = [])
    (ha : s.rx.aligned = true) (hs : dispatching s.session.state = true) : dispatch f handle s = handle s := by
  simp [dispatch, hg, ha, hs]

/-- With no frame on its way nothing arrives at an unaligned receiver, in OFF, in CLOSING or in FAULT. -/
theorem dispatch_nothing (f : Frame) (handle : State → State) (s : State) (hg : s.rx.good = [])
    (h : s.rx.aligned = false ∨ dispatching s.session.state = false) : dispatch f handle s = s := by
  rcases h with h | h <;> simp [dispatch, hg, h]

/-- The oldest received frame leaves the list, and is handled in SEEK and UP. -/
theorem dispatch_oldest (f : Frame) (handle : State → State) (s : State) (rest : List Frame)
    (hg : s.rx.good = f :: rest) :
    dispatch f handle s =
      if dispatching s.session.state then handle (s.setRx { s.rx with good := rest })
      else s.setRx { s.rx with good := rest } := by
  simp only [dispatch, hg, if_true]
  rfl

/-- A frame that is not the oldest received is not the one taken. -/
theorem dispatch_other (f g : Frame) (handle : State → State) (s : State) (rest : List Frame)
    (hg : s.rx.good = g :: rest) (hne : g ≠ f) : dispatch f handle s = s := by
  simp [dispatch, hg, hne]

/-- A step takes the command in front. -/
theorem step_cons (s : State) (c : Instr) (rest : List Instr) (h : s.pending = c :: rest) :
    step s = exec c (s.setPending rest) := by
  simp [step, h]

/-- A step on an empty queue changes nothing. -/
theorem step_nil (s : State) (h : s.pending = []) : step s = .next s := by simp [step, h]

end Sys2Proof.Machine
end

