-- ==== Sys2Proof/Laws/Journal.lean ====
section
/-! SUPPORT. The Outbound Journal after each of its operations: what every operation on it can do, said once. -/

namespace Sys2Proof.Machine

/-- A withdrawal changes the Copy Engine only, and only from WAITING to IDLE (R165). -/
theorem withdrawCopy_cases (s : State) :
    withdrawCopy s = s ∨
      (withdrawCopy s = s.setCopy { s.copy with engine := .idle } ∧ copyMayRun s = false ∧
        ∃ w c, s.copy.engine = .waiting w c) := by
  unfold withdrawCopy
  split
  · rename_i w c h
    by_cases hr : copyMayRun s = true
    · left; rw [if_pos hr]
    · right; exact ⟨by rw [if_neg hr], by simpa using hr, w, c, h⟩
  · left; rfl

/-- The journal after a seal (R13). -/
theorem sealOpen_journal (s : State) :
    (sealOpen s).journal = { s.journal with entries := s.journal.entries.map Entry.seal } := rfl

/-- The journal after a new entry (R4). -/
theorem pushEntry_journal (c : Content) (st : EntryState) (s : State) :
    (pushEntry c st s).journal = { s.journal with
      entries := s.journal.entries ++ [{ seq := s.journal.nextSeq, content := c, state := st, held := false }]
      nextSeq := s.journal.nextSeq + 1#12 } := rfl

/-- The journal after an open (R9). -/
theorem openEntry_journal (r : Run) (s : State) :
    (openEntry r s).journal = (pushEntry (.write [r]) .opened s).journal := by
  simp [openEntry]

/-- The journal after an append: sealed, then one READY entry more (R10). -/
theorem append_journal (c : Content) (s : State) :
    (append c s).journal = { s.journal with
      entries := s.journal.entries.map Entry.seal ++
        [{ seq := s.journal.nextSeq, content := c, state := .ready, held := false }]
      nextSeq := s.journal.nextSeq + 1#12 } := by
  simp [append, pushEntry_journal, sealOpen_journal]

/-- The journal after a release (R15). -/
theorem release_journal (n : Seq) (s : State) :
    (release n s).journal = if s.journal.gone n = [] then s.journal else s.journal.afterRelease n := by
  simp only [release]
  (repeat' split) <;> simp

/-- The journal after a rewind (R17). -/
theorem rewind_journal (m : Seq) (s : State) :
    (rewind m s).journal = if m = s.journal.sendPoint then s.journal
      else { s.journal with entries := s.journal.entries.map (Entry.rewind m), sendPoint := m } := by
  unfold rewind
  split <;> rfl

/-- The journal after a discard (R19). -/
theorem discardJournal_journal (s : State) :
    (discardJournal s).journal =
      { s.journal with entries := [], sendPoint := s.journal.nextSeq, heldRewind := none } := by
  simp only [discardJournal]
  split <;> simp

/-- A seal leaves a READY or INFLIGHT entry as it is, and every entry's seq, content and mark. -/
@[simp] theorem Entry.seal_seq (e : Entry) : e.seal.seq = e.seq := by unfold Entry.seal; split <;> rfl
@[simp] theorem Entry.seal_content (e : Entry) : e.seal.content = e.content := by unfold Entry.seal; split <;> rfl
@[simp] theorem Entry.seal_held (e : Entry) : e.seal.held = e.held := by unfold Entry.seal; split <;> rfl
theorem Entry.seal_state (e : Entry) : e.seal.state = if e.state = .opened then .ready else e.state := by
  unfold Entry.seal; split <;> simp_all

/-- A rewind leaves every entry's seq, content and mark. -/
@[simp] theorem Entry.rewind_seq (m : Seq) (e : Entry) : (e.rewind m).seq = e.seq := by
  unfold Entry.rewind; split <;> rfl
@[simp] theorem Entry.rewind_content (m : Seq) (e : Entry) : (e.rewind m).content = e.content := by
  unfold Entry.rewind; split <;> rfl
@[simp] theorem Entry.rewind_held (m : Seq) (e : Entry) : (e.rewind m).held = e.held := by
  unfold Entry.rewind; split <;> rfl

end Sys2Proof.Machine
end

