-- ==== Sys2Proof/Laws/Management.lean ====
section
/-! SUPPORT. No operation behind a management command looks at the Management Port: each one commutes with a change of
it. A command whose last argument byte comes later therefore acts as one whose bytes came at once. -/

namespace Sys2Proof.Machine

/-! ## Updates of other blocks -/

@[simp] theorem State.setMgmt_setEvents (s : State) (m : MgmtPort) (x : EventUnit) :
    (s.setMgmt m).setEvents x = (s.setEvents x).setMgmt m := rfl
@[simp] theorem State.setMgmt_setCounters (s : State) (m : MgmtPort) (x : Vector Nat 15) :
    (s.setMgmt m).setCounters x = (s.setCounters x).setMgmt m := rfl
@[simp] theorem State.setMgmt_setParams (s : State) (m : MgmtPort) (x : Params) :
    (s.setMgmt m).setParams x = (s.setParams x).setMgmt m := rfl
@[simp] theorem State.setMgmt_setTable (s : State) (m : MgmtPort) (x : WindowTable) :
    (s.setMgmt m).setTable x = (s.setTable x).setMgmt m := rfl
@[simp] theorem State.setMgmt_setPart (s : State) (m : MgmtPort) (x : PartRole) :
    (s.setMgmt m).setPart x = (s.setPart x).setMgmt m := rfl
@[simp] theorem State.setMgmt_setHost (s : State) (m : MgmtPort) (x : HostPort) :
    (s.setMgmt m).setHost x = (s.setHost x).setMgmt m := rfl
@[simp] theorem State.setMgmt_setPort (s : State) (m : MgmtPort) (x : MemoryPort) :
    (s.setMgmt m).setPort x = (s.setPort x).setMgmt m := rfl
@[simp] theorem State.setMgmt_setMem (s : State) (m : MgmtPort) (x : Memory) :
    (s.setMgmt m).setMem x = (s.setMem x).setMgmt m := rfl
@[simp] theorem State.setMgmt_setCapture (s : State) (m : MgmtPort) (x : CaptureUnit) :
    (s.setMgmt m).setCapture x = (s.setCapture x).setMgmt m := rfl
@[simp] theorem State.setMgmt_setHold (s : State) (m : MgmtPort) (x : HoldUnit) :
    (s.setMgmt m).setHold x = (s.setHold x).setMgmt m := rfl
@[simp] theorem State.setMgmt_setJournal (s : State) (m : MgmtPort) (x : Journal) :
    (s.setMgmt m).setJournal x = (s.setJournal x).setMgmt m := rfl
@[simp] theorem State.setMgmt_setCopy (s : State) (m : MgmtPort) (x : CopyUnit) :
    (s.setMgmt m).setCopy x = (s.setCopy x).setMgmt m := rfl
@[simp] theorem State.setMgmt_setSession (s : State) (m : MgmtPort) (x : SessionUnit) :
    (s.setMgmt m).setSession x = (s.setSession x).setMgmt m := rfl
@[simp] theorem State.setMgmt_setTx (s : State) (m : MgmtPort) (x : Transmitter) :
    (s.setMgmt m).setTx x = (s.setTx x).setMgmt m := rfl
@[simp] theorem State.setMgmt_setRx (s : State) (m : MgmtPort) (x : Receiver) :
    (s.setMgmt m).setRx x = (s.setRx x).setMgmt m := rfl
@[simp] theorem State.setMgmt_setSender (s : State) (m : MgmtPort) (x : SendDelivery) :
    (s.setMgmt m).setSender x = (s.setSender x).setMgmt m := rfl
@[simp] theorem State.setMgmt_setAcker (s : State) (m : MgmtPort) (x : AckDelivery) :
    (s.setMgmt m).setAcker x = (s.setAcker x).setMgmt m := rfl
@[simp] theorem State.setMgmt_setApplyq (s : State) (m : MgmtPort) (x : ApplyUnit) :
    (s.setMgmt m).setApplyq x = (s.setApplyq x).setMgmt m := rfl

/-! ## Shared operations -/

@[simp] theorem finishHost_setMgmt (s : State) (m : MgmtPort) (c : Completion) :
    finishHost c (s.setMgmt m) = (finishHost c s).setMgmt m := rfl
@[simp] theorem raise_setMgmt (s : State) (m : MgmtPort) (e : Event) :
    raise e (s.setMgmt m) = (raise e s).setMgmt m := rfl
@[simp] theorem count_setMgmt (s : State) (m : MgmtPort) (c : Counter) :
    count c (s.setMgmt m) = (count c s).setMgmt m := rfl
@[simp] theorem copyMayRun_setMgmt (s : State) (m : MgmtPort) : copyMayRun (s.setMgmt m) = copyMayRun s := rfl
@[simp] theorem syncedDue_setMgmt (s : State) (m : MgmtPort) : syncedDue (s.setMgmt m) = syncedDue s := rfl
@[simp] theorem restartGeneration_setMgmt (s : State) (m : MgmtPort) (r : RestartReason) :
    restartGeneration r (s.setMgmt m) = restartGeneration r s := rfl
@[simp] theorem copyReading_setMgmt (s : State) (m : MgmtPort) : copyReading (s.setMgmt m) = copyReading s := rfl
@[simp] theorem completeHeld_setMgmt (s : State) (m : MgmtPort) :
    completeHeld (s.setMgmt m) = (completeHeld s).setMgmt m := by
  simp only [completeHeld, State.setMgmt_host]
  split <;> simp
@[simp] theorem endHold_setMgmt (s : State) (m : MgmtPort) (o : HoldOutcome) :
    endHold o (s.setMgmt m) = (endHold o s).setMgmt m := by simp [endHold]
@[simp] theorem endStall_setMgmt (s : State) (m : MgmtPort) :
    endStall (s.setMgmt m) = (endStall s).setMgmt m := by
  simp only [endStall, State.setMgmt_host]
  split <;> simp
@[simp] theorem withdrawCopy_setMgmt (s : State) (m : MgmtPort) :
    withdrawCopy (s.setMgmt m) = (withdrawCopy s).setMgmt m := by
  simp only [withdrawCopy, State.setMgmt_copy, copyMayRun_setMgmt]
  split
  · by_cases h : copyMayRun s = true <;> simp [h]
  · rfl
@[simp] theorem sealOpen_setMgmt (s : State) (m : MgmtPort) : sealOpen (s.setMgmt m) = (sealOpen s).setMgmt m := rfl
@[simp] theorem pushEntry_setMgmt (s : State) (m : MgmtPort) (c : Content) (st : EntryState) :
    pushEntry c st (s.setMgmt m) = (pushEntry c st s).setMgmt m := rfl
@[simp] theorem append_setMgmt (s : State) (m : MgmtPort) (c : Content) :
    append c (s.setMgmt m) = (append c s).setMgmt m := by simp [append]
@[simp] theorem rewind_setMgmt (s : State) (m : MgmtPort) (q : Seq) :
    rewind q (s.setMgmt m) = (rewind q s).setMgmt m := by
  by_cases h : q = s.journal.sendPoint
  · simp [rewind, h]
  · simp [rewind, h]
@[simp] theorem takeHeldRewind_setMgmt (s : State) (m : MgmtPort) :
    takeHeldRewind (s.setMgmt m) = (takeHeldRewind s).setMgmt m := by
  simp only [takeHeldRewind, State.setMgmt_journal]
  split
  · rfl
  · rw [State.setMgmt_setJournal, rewind_setMgmt]
    rfl
@[simp] theorem discardJournal_setMgmt (s : State) (m : MgmtPort) :
    discardJournal (s.setMgmt m) = (discardJournal s).setMgmt m := by
  by_cases h : s.journal.entries.any (fun e => e.held) = true
  · simp only [discardJournal, State.setMgmt_journal, h, if_true]; simp
  · simp only [discardJournal, State.setMgmt_journal, h, Bool.false_eq_true, if_false]; simp
@[simp] theorem abortFrame_setMgmt (s : State) (m : MgmtPort) :
    abortFrame (s.setMgmt m) = (abortFrame s).setMgmt m := by
  simp only [abortFrame, State.setMgmt_tx]
  split <;> simp
@[simp] theorem askHello_setMgmt (s : State) (m : MgmtPort) : askHello (s.setMgmt m) = (askHello s).setMgmt m := rfl
@[simp] theorem startHelloTimer_setMgmt (s : State) (m : MgmtPort) :
    startHelloTimer (s.setMgmt m) = (startHelloTimer s).setMgmt m := rfl
@[simp] theorem enterSeek_setMgmt (s : State) (m : MgmtPort) : enterSeek (s.setMgmt m) = (enterSeek s).setMgmt m := rfl
@[simp] theorem leaveUp_setMgmt (s : State) (m : MgmtPort) (r : LossReason) :
    leaveUp r (s.setMgmt m) = (leaveUp r s).setMgmt m := by
  simp [leaveUp]
  split <;> simp
@[simp] theorem loseSession_setMgmt (s : State) (m : MgmtPort) (r : LossReason) :
    loseSession r (s.setMgmt m) = (loseSession r s).setMgmt m := by simp [loseSession]
@[simp] theorem enterClosing_setMgmt (s : State) (m : MgmtPort) :
    enterClosing (s.setMgmt m) = (enterClosing s).setMgmt m := by simp [enterClosing]
@[simp] theorem enterOff_setMgmt (s : State) (m : MgmtPort) :
    enterOff (s.setMgmt m) = (enterOff s).setMgmt m := by simp [enterOff]
@[simp] theorem offerSynced_setMgmt (s : State) (m : MgmtPort) :
    offerSynced (s.setMgmt m) = (offerSynced s).setMgmt m := by
  unfold offerSynced
  rw [syncedDue_setMgmt, State.setMgmt_journal]
  split
  · simp
  · rfl
@[simp] theorem restartSession_setMgmt (s : State) (m : MgmtPort) :
    restartSession (s.setMgmt m) = (restartSession s).setMgmt m := by
  simp only [restartSession, State.setMgmt_session]
  split <;> simp
@[simp] theorem restart_setMgmt (s : State) (m : MgmtPort) (r : RestartReason) :
    restart r (s.setMgmt m) = (restart r s).setMgmt m := by simp [restart]
@[simp] theorem completeCommit_setMgmt (s : State) (m : MgmtPort) :
    completeCommit (s.setMgmt m) = (completeCommit s).setMgmt m := by simp [completeCommit]
@[simp] theorem offerCommit_setMgmt (s : State) (m : MgmtPort) :
    offerCommit (s.setMgmt m) = (offerCommit s).setMgmt m := by
  unfold offerCommit
  rw [State.setMgmt_table, State.setMgmt_journal]
  split
  · simp
  · rfl
@[simp] theorem leaveSecondary_setMgmt (s : State) (m : MgmtPort) :
    leaveSecondary (s.setMgmt m) = (leaveSecondary s).setMgmt m := rfl
@[simp] theorem clearSender_setMgmt (s : State) (m : MgmtPort) :
    clearSender (s.setMgmt m) = (clearSender s).setMgmt m := rfl
@[simp] theorem clearRejectRestarts_setMgmt (s : State) (m : MgmtPort) :
    clearRejectRestarts (s.setMgmt m) = (clearRejectRestarts s).setMgmt m := rfl
@[simp] theorem completePromotion_setMgmt (s : State) (m : MgmtPort) :
    completePromotion (s.setMgmt m) = (completePromotion s).setMgmt m := by simp [completePromotion]
@[simp] theorem leavePrimary_setMgmt (s : State) (m : MgmtPort) :
    leavePrimary (s.setMgmt m) = (leavePrimary s).setMgmt m := by simp [leavePrimary]
@[simp] theorem leaveRole_setMgmt (s : State) (m : MgmtPort) :
    leaveRole (s.setMgmt m) = (leaveRole s).setMgmt m := by
  simp only [leaveRole, State.setMgmt_part]
  split <;> simp
@[simp] theorem arriveSecondary_setMgmt (s : State) (m : MgmtPort) :
    arriveSecondary (s.setMgmt m) = (arriveSecondary s).setMgmt m := rfl
@[simp] theorem changeRole_setMgmt (s : State) (m : MgmtPort) (r : Role) :
    changeRole r (s.setMgmt m) = (changeRole r s).setMgmt m := by
  cases r <;> simp [changeRole]

end Sys2Proof.Machine
end

