-- ==== Sys2Proof/Laws/Memory.lean ====
section
/-! SUPPORT. Memory: reading a byte after a byte has been written, and the canonical form, which every memory operation
keeps and the memory after reset has. -/

namespace Sys2Proof.Machine

/-! ## One byte -/

/-- A key below every listed key is not listed. -/
theorem readCell_of_lt (cells : List Host.Cell) (n : Nat) (h : ∀ c ∈ cells, n < c.1) :
    readCell cells n = Config.unwrittenByte := by
  induction cells with
  | nil => rfl
  | cons c rest ih =>
    obtain ⟨k, b⟩ := c
    have hk := h (k, b) (by simp)
    have := ih (fun c hc => h c (by simp [hc]))
    simp only [readCell]
    rw [if_neg (by simp at hk; omega), this]

/-- Another key keeps its byte. -/
theorem readCell_writeCell_other (cells : List Host.Cell) (n k : Nat) (v : Byte) (h : k ≠ n) :
    readCell (writeCell n v cells) k = readCell cells k := by
  induction cells with
  | nil => simp only [writeCell]; split <;> simp [readCell, Ne.symm h]
  | cons c rest ih =>
    obtain ⟨j, b⟩ := c
    simp only [writeCell]
    split
    · split <;> simp [readCell, Ne.symm h]
    · split
      · rename_i hj
        subst hj
        split <;> simp [readCell, Ne.symm h]
      · simp [readCell, ih]

/-- The byte written is the byte read. -/
theorem readCell_writeCell_same (cells : List Host.Cell) (n : Nat) (v : Byte)
    (hs : cells.Pairwise (fun c d => c.1 < d.1)) : readCell (writeCell n v cells) n = v := by
  induction cells with
  | nil => simp only [writeCell]; split <;> simp_all [readCell]
  | cons c rest ih =>
    obtain ⟨j, b⟩ := c
    rw [List.pairwise_cons] at hs
    simp only [writeCell]
    split
    · rename_i hlt
      split
      · rename_i hv
        rw [hv]
        refine readCell_of_lt _ _ ?_
        intro c hc
        rcases List.mem_cons.1 hc with rfl | hc
        · exact hlt
        · exact lt_trans hlt (hs.1 c hc)
      · simp [readCell]
    · split
      · rename_i hj
        subst hj
        split
        · rename_i hv
          rw [hv]
          exact readCell_of_lt _ _ (fun c hc => hs.1 c hc)
        · simp [readCell]
      · rename_i hj
        simp only [readCell]
        rw [if_neg (Ne.symm hj)]
        exact ih hs.2

/-- A key of the cells after a write is a key before it or the key written. -/
theorem writeCell_keys (cells : List Host.Cell) (n : Nat) (v : Byte) (c : Host.Cell) (h : c ∈ writeCell n v cells) :
    c ∈ cells ∨ c = (n, v) := by
  induction cells with
  | nil => simp only [writeCell] at h; split at h <;> simp_all
  | cons d rest ih =>
    obtain ⟨j, b⟩ := d
    simp only [writeCell] at h
    split at h
    · split at h
      · simp_all
      · simp_all
        tauto
    · split at h
      · split at h
        · simp_all
        · simp_all
          tauto
      · rcases List.mem_cons.1 h with rfl | h
        · simp
        · rcases ih h with h | h
          · simp [h]
          · simp [h]

/-- A write keeps the canonical form. -/
theorem writeCell_wf (cells : List Host.Cell) (n : Nat) (v : Byte)
    (hs : cells.Pairwise (fun c d => c.1 < d.1)) (hd : ∀ c ∈ cells, c.2 ≠ Config.unwrittenByte) :
    (writeCell n v cells).Pairwise (fun c d => c.1 < d.1) ∧
      ∀ c ∈ writeCell n v cells, c.2 ≠ Config.unwrittenByte := by
  induction cells with
  | nil => simp only [writeCell]; split <;> simp_all
  | cons d rest ih =>
    obtain ⟨j, b⟩ := d
    have hs' := List.pairwise_cons.1 hs
    simp only [writeCell]
    split
    · rename_i hlt
      split
      · exact ⟨hs, hd⟩
      · rename_i hv
        refine ⟨List.pairwise_cons.2 ⟨?_, hs⟩, ?_⟩
        · intro c hc
          rcases List.mem_cons.1 hc with rfl | hc
          · exact hlt
          · exact lt_trans hlt (hs'.1 c hc)
        · intro c hc
          rcases List.mem_cons.1 hc with rfl | hc
          · exact hv
          · exact hd c hc
    · split
      · rename_i hj
        subst hj
        split
        · exact ⟨hs'.2, fun c hc => hd c (by simp [hc])⟩
        · rename_i hv
          refine ⟨List.pairwise_cons.2 ⟨fun c hc => hs'.1 c hc, hs'.2⟩, ?_⟩
          intro c hc
          rcases List.mem_cons.1 hc with rfl | hc
          · exact hv
          · exact hd c (by simp [hc])
      · have ih' := ih hs'.2 (fun c hc => hd c (by simp [hc]))
        refine ⟨List.pairwise_cons.2 ⟨?_, ih'.1⟩, ?_⟩
        · intro c hc
          rcases writeCell_keys rest n v c hc with h | h
          · exact hs'.1 c h
          · subst h; simp; omega
        · intro c hc
          rcases List.mem_cons.1 hc with rfl | hc
          · exact hd _ (by simp)
          · exact ih'.2 c hc

/-! ## Words and operations -/

/-- One byte of a word write keeps the canonical form. -/
theorem writeByteIf_wf (mask : Mask) (data : Word) (a k : Nat) (cells : List Host.Cell)
    (h : cells.Pairwise (fun c d => c.1 < d.1) ∧ ∀ c ∈ cells, c.2 ≠ Config.unwrittenByte) :
    (writeByteIf mask data a k cells).Pairwise (fun c d => c.1 < d.1) ∧
      ∀ c ∈ writeByteIf mask data a k cells, c.2 ≠ Config.unwrittenByte := by
  unfold writeByteIf
  split
  · exact writeCell_wf _ _ _ h.1 h.2
  · exact h

/-- A word write keeps the canonical form (R44). -/
theorem Memory.writeWord_wf (m : Memory) (a : Nat) (w : MaskedWord) (h : m.wf) : (m.writeWord a w).wf := by
  unfold Memory.writeWord
  split
  · exact writeByteIf_wf _ _ _ _ _ (writeByteIf_wf _ _ _ _ _ (writeByteIf_wf _ _ _ _ _ (writeByteIf_wf _ _ _ _ _ h)))
  · exact h

/-- Word writes in order keep the canonical form (R44). -/
theorem Memory.writeAll_wf (m : Memory) (accesses : List (Nat × MaskedWord)) (h : m.wf) :
    (m.writeAll accesses).wf := by
  unfold Memory.writeAll
  induction accesses generalizing m with
  | nil => exact h
  | cons p rest ih => exact ih _ (m.writeWord_wf p.1 p.2 h)

/-- Reads keep the canonical form. -/
theorem Memory.afterReads_wf (m : Memory) (addrs : List Nat) (h : m.wf) : (m.afterReads addrs).wf := by
  unfold Memory.afterReads
  split
  · exact h
  · exact h

/-- The memory right after reset is in canonical form. -/
theorem reset_mem_wf : State.reset.mem.wf := ⟨List.Pairwise.nil, fun _ h => absurd h List.not_mem_nil⟩

/-- A word write leaves the memory's size and the count of free reads alone. -/
@[simp] theorem Memory.writeWord_size (m : Memory) (a : Nat) (w : MaskedWord) :
    (m.writeWord a w).fittedPages = m.fittedPages ∧ (m.writeWord a w).freeReads = m.freeReads := by
  unfold Memory.writeWord
  split <;> simp

end Sys2Proof.Machine
end

