-- ==== Sys2Proof/Tests/Slice0.lean ====
section
/-! SUPPORT. The model's own tests: the WellFormed smoke, worked examples and tables of the manual (each test names its
source), and for every statement with hypotheses a state and operands that meet them, clause by clause. -/

namespace Sys2Proof.Tests

set_option Elab.async false

open Sys2Proof.Machine

/-! ## States the tests start from -/

/-- Window 0, one page, ASYNC, and window 1, the next page, SYNC. -/
def bank : Bank :=
  ((Vector.replicate 16 Window.absent).set 0 { present := true, basePage := 0, pageCount := 1, mode := .async }).set 1
    { present := true, basePage := 1, pageCount := 1, mode := .sync }

/-- A bank whose two windows share a page. -/
def overlapping : Bank :=
  bank.set 1 { present := true, basePage := 0, pageCount := 2, mode := .async }

/-- A state with a management transaction in COMMAND. -/
def commanded (s : State) : State := s.setMgmt { csLow := true, phase := .command }

/-- A PRIMARY with both windows in one copy state, its session in a given state, its journal with given entries. -/
def primary (st : SessionState) (c : CopyState) (entries : List Entry) (next sendPoint : Seq) : State :=
  { State.reset with
    part := { role := .primary, promotionPending := false, forced := false }
    table := { active := bank, staged := bank, commitPending := false }
    copy := { states := ((Vector.replicate 16 .untracked).set 0 c).set 1 c, syncOwed := false, engine := .idle }
    journal := { State.reset.journal with entries := entries, nextSeq := next, sendPoint := sendPoint,
                                          generation := 7#16 }
    session := { State.reset.session with state := st, seen := decide (st = .up),
                                          helloTimer := if st = .seek then some 500 else none }
    tx := { State.reset.tx with helloDue := decide (st = .seek) }
    rx := { State.reset.rx with aligned := true, silenceTimer := if st = .up then some 1000 else none }
    sender := { peerLimit := next + 8#12, retryCount := 0, ackTimer := none } }

/-- A SECONDARY with its session in a given state, both windows present, expecting seq 100 of generation 7. -/
def secondary (st : SessionState) (queue : List DataFrame) : State :=
  { State.reset with
    part := { role := .secondary, promotionPending := false, forced := false }
    table := { active := bank, staged := bank, commitPending := false }
    session := { State.reset.session with state := st, seen := decide (st = .up),
                                          helloTimer := if st = .seek then some 500 else none }
    rx := { State.reset.rx with aligned := true, silenceTimer := if st = .up then some 1000 else none }
    acker := { State.reset.acker with statusTimer := if st = .up then some 50 else none }
    applyq := { State.reset.applyq with queue := queue, expected := 100#12, streamGeneration := 7#16,
                                        dataGeneration := 7#16 } }

/-- A WRITE content of one run in window 0: one word at address a. -/
def word (a : Nat) : Content := .write [{ window := 0, start := a, words := [{ data := 0x11223344#32, mask := 15#4 }] }]

/-- A journal entry that carries it. -/
def entry (q : Seq) (st : EntryState) : Entry := newEntry q (word q.toNat) st

/-- n READY entries from seq 0. -/
def readyEntries (n : Nat) : List Entry := (List.range n).map (fun k => entry (BitVec.ofNat 12 k) .ready)

/-- A full write of a word. -/
def hostWrite (a : Nat) : HostWrite := { addr := BitVec.ofNat 22 a, mask := 15#4, data := 0xAABBCCDD#32 }

/-- The state a command leads to; the state itself when it stops. -/
def after (c : Instr) (s : State) : State :=
  match exec c s with
  | .next t => t
  | _ => s

/-- A PRIMARY in UP with one held entry, its SYNC write HELD. -/
def holding : State :=
  { primary .up .clean [{ entry 5#12 .ready with held := true }] 6#12 5#12 with
    host := { state := .held (hostWrite 256), completion := none }
    hold := { holding := true, timer := some 2000, last := .none } }

/-- A PRIMARY in UP with a full journal and a stalled write. -/
def stalledPrimary : State :=
  { primary .up .clean (readyEntries 64) 64#12 0#12 with
    host := { state := .stalled (hostWrite 3), completion := none }
    capture := { stallTimer := some 1000, sealTimer := none } }

/-- A SECONDARY with an entry under application at the memory port. -/
def applying : State :=
  let s := secondary .up []
  { s with port := { holder := .apply, lastGrant := .engine }
           applyq := { s.applyq with engine := .writing { seq := 99#12, content := word 3 } } }

/-- A PRIMARY with window 0 COPYING at cursor c and a burst in progress, void or not. -/
def bursting (c : Nat) (void : Bool) : State :=
  let s := primary .up .clean [entry 5#12 .opened] 6#12 5#12
  { s with port := { holder := .burst, lastGrant := .engine }
           capture := { stallTimer := none, sealTimer := some 16 }
           copy := { states := s.copy.states.set 0 (.copying c), syncOwed := true, engine := .reading 0 c void } }

/-- A PRIMARY in UP with two entries INFLIGHT, the ack timer running, and a DATA frame in transmission or not. -/
def awaitingAck (data : Bool) : State :=
  let s := primary .up .clean [entry 5#12 .inflight, entry 6#12 .inflight, entry 7#12 .ready] 8#12 7#12
  { s with sender := { s.sender with ackTimer := some 200 }
           tx := { s.tx with sending := if data then some { kind := .data 7#12, bytes := [] } else none } }

/-- The same while the DATA frame of entry 7 goes out, a rewind to m held behind it. -/
def heldBack (m : Seq) : State :=
  (awaitingAck true).setJournal { (awaitingAck true).journal with heldRewind := some m }

/-- The same with the session lost on the next expiry. -/
def lastRetry : State := (awaitingAck false).setSender { peerLimit := 20#12, retryCount := 5, ackTimer := some 200 }

/-- A secondary's HELLO to the primary of these tests. -/
def peerHello (next : Seq) (seen : Bool) : HelloFrame :=
  { revision := 1#8, role := .secondary, seen := seen, fresh := false, consistent := false, reject := false,
    generation := 7#16, oldest := next, next := next, limit := next + 32#12 }

/-- A primary's HELLO to the secondary of these tests. -/
def primaryHello (g : Gen) (oldest next : Seq) (seen fresh : Bool) : HelloFrame :=
  { revision := 1#8, role := .primary, seen := seen, fresh := fresh, consistent := false, reject := false,
    generation := g, oldest := oldest, next := next, limit := 0#12 }

/-- A DATA frame that carries a content. -/
def data (c : Content) : Instr := .dataReceived { seq := 0#12, content := c }

/-- A word of an entry. -/
def masked (m : Mask) : MaskedWord := { data := 0#32, mask := m }

/-! ## WellFormed refuses each kind of ill-formed term (R186, R101, R102, R196) -/

theorem test_illformed_unknown_command : Instr.wellFormed (.unknownCommand 0x10#8) = false := by decide
theorem test_wellformed_unknown_command : Instr.wellFormed (.unknownCommand 0x00#8) = true := by decide
theorem test_illformed_hello_role :
    Instr.wellFormed (.helloReceived { peerHello 0#12 false with role := .detached }) = false := by decide
theorem test_illformed_write_no_runs : (data (.write [])).wellFormed = false := by decide
theorem test_illformed_write_five_runs :
    (data (.write (List.replicate 5 { window := 0, start := 0, words := [masked 1#4] }))).wellFormed = false :=
      by decide
theorem test_illformed_write_mask_zero :
    (data (.write [{ window := 0, start := 0, words := [masked 0#4] }])).wellFormed = false := by decide
theorem test_illformed_write_seventeen_words :
    (data (.write [{ window := 0, start := 0, words := List.replicate 9 (masked 1#4) },
      { window := 0, start := 9, words := List.replicate 8 (masked 1#4) }])).wellFormed = false := by decide
theorem test_illformed_copy_length :
    (data (.copy { window := 0, start := 0, words := List.replicate 15 (masked 15#4) })).wellFormed = false := by decide
theorem test_illformed_copy_mask :
    (data (.copy { window := 0, start := 0, words := List.replicate 16 (masked 14#4) })).wellFormed = false := by decide
theorem test_illformed_table_pages :
    (data (.table (bank.set 3 { Window.absent with pageCount := 16385 }) true)).wellFormed = false := by decide +kernel
theorem test_illformed_generation_zero : (data (.generation 0#16)).wellFormed = false := by decide
theorem test_illformed_synced_zero : (data (.synced 0#16)).wellFormed = false := by decide
theorem test_illformed_alignment_eleven_ones : Instr.wellFormed (.characterAlignment (.ones 11)) = false := by decide
theorem test_illformed_alignment_no_control :
    Instr.wellFormed (.characterAlignment (.characters (List.replicate 16 (makeCharacter false 0x00#8)))) = false := by
  decide +kernel

/-! ## The command byte and its argument bytes, from the table of 13.3 (R198) -/

theorem test_word_spells_read_id : decodeTableWord 8 0x10 = some .readId := by decide +kernel
theorem test_word_spells_set_config : decodeTableWord 32 0x14000230 = some (.setConfig [0x02#8, 0x00#8, 0x14#8]) := by
  decide +kernel
theorem test_word_spells_unknown : decodeTableWord 8 0x00 = some (.unknownCommand 0x00#8) := by decide +kernel
theorem test_no_bits_spell_nothing : decodeTableWord 0 0 = none := by decide +kernel

/-! ## Worked examples and tables of the manual -/

/-- R95: the CRC of the nine characters 1 to 9 is 0x29B1. -/
theorem test_crc_check_string :
    crc16 [0x31#8, 0x32#8, 0x33#8, 0x34#8, 0x35#8, 0x36#8, 0x37#8, 0x38#8, 0x39#8] = 0x29B1#16 := by decide +kernel

/-- R4: 4095 precedes 0, and 0 does not precede 4095. -/
theorem test_seq_wraps : seqPrecedes 4095#12 0#12 = true ∧ seqPrecedes 0#12 4095#12 = false := by decide

/-- R21: the generation after 65535 is 1. -/
theorem test_generation_skips_zero : nextGeneration 65535#16 = 1#16 := by decide

/-- The open entry's run of "coalescing six writes" after write 1. -/
def runA : Run := { window := 0, start := 100, words := [{ data := 0x11111111#32, mask := 15#4 }] }

/-- The words of the example's run A after writes 1, 2 and 3. -/
def word1 : MaskedWord := { data := 0x11111111#32, mask := 15#4 }
def word2 : MaskedWord := { data := 0x00002222#32, mask := 3#4 }
def word3 : MaskedWord := { data := 0x00332222#32, mask := 7#4 }

/-- "Coalescing six writes", write 2: the run is extended, bytes outside the mask 0. -/
theorem test_coalesce_extends :
    coalesce [runA] 0 { addr := 101#22, mask := 3#4, data := 0x00002222#32 } =
      some [{ runA with words := [word1, word2] }] := by decide

/-- "Coalescing six writes", write 3: byte 2 is replaced, the masks are joined. -/
theorem test_coalesce_merges :
    coalesce [{ runA with words := [word1, word2] }] 0 { addr := 101#22, mask := 4#4, data := 0x00330000#32 } =
      some [{ runA with words := [word1, word3] }] := by decide

/-- "Coalescing six writes", write 5: a run of another window is not extended. -/
theorem test_coalesce_other_window :
    coalesce [{ runA with start := 2047 }] 1 { addr := 2048#22, mask := 15#4, data := 0x55555555#32 } =
      some [{ runA with start := 2047 },
        { window := 1, start := 2048, words := [{ data := 0x55555555#32, mask := 15#4 }] }] := by decide

/-- "A stream from resumption to NAK", event 7: ack 102 with NAK releases 101 and rewinds 102 and 103. -/
theorem test_nak_releases_and_rewinds :
    ((after (.linkReceived { ack := 102#12, limit := 120#12, nak := true, reject := false })
      (primary .up .clean [entry 101#12 .inflight, entry 102#12 .inflight, entry 103#12 .inflight] 104#12
        104#12)).journal.entries.map (fun e => (e.seq, e.state))) = [(102#12, .ready), (103#12, .ready)] := by
  decide +kernel

/-- "A hold released, a hold timed out", event 3: the hold of the acknowledged entry ends RELEASED. -/
theorem test_hold_released :
    (after (.linkReceived { ack := 6#12, limit := 20#12, nak := false, reject := false })
      { holding with journal := { holding.journal with
          entries := [{ entry 5#12 .inflight with held := true }], sendPoint := 6#12 } }).hold =
      { holding := false, timer := none, last := .released } := by decide +kernel

/-- "A hold released, a hold timed out", event 6: the hold ends TIMEOUT and SYNC_LATE is counted. -/
theorem test_hold_times_out :
    (after .holdTimerExpiry holding).hold.last = .timeout ∧
      counterValue .syncLate (after .holdTimerExpiry holding) = 1 := by decide +kernel

/-- "A secondary taking a new stream", event 1: the acceptance of a seq leaves limit as it was. -/
theorem test_acceptance_keeps_limit :
    (after (.dataReceived { seq := 100#12, content := word 3 }) (secondary .up [])).applyq.limit = 132#12 := by
  decide +kernel

/-- "A secondary taking a new stream", event 2: GENERATION(8) is applied within its take, and limit rises. -/
theorem test_generation_applied :
    (after .applyTake (secondary .up [{ seq := 99#12, content := .generation 8#16 }])).applyq.dataGeneration = 8#16 ∧
      (after .applyTake (secondary .up [{ seq := 99#12, content := .generation 8#16 }])).applyq.limit = 132#12 := by
  decide +kernel

/-- R187: the five bytes of READ_ID after the result byte. -/
theorem test_read_id :
    (List.range 6).map (sdoByte (after .readId (commanded State.reset))) =
      [some 0x01#8, some 0x6B#8, some 0x31#8, some 0x40#8, some 0x01#8, some 0x01#8] := by decide +kernel

/-- R189: the default of ACK_TIMEOUT is 20. -/
theorem test_read_config :
    (after (.readConfig [0x02#8]) (commanded State.reset)).mgmt.phase = .response [0x01#8, 0x00#8, 0x14#8] false := by
  decide +kernel

/-- R177: SET_ROLE(PRIMARY) on a reset part restarts the stream under generation 1,
and with no window present the SYNCED
entry follows at once (R172). -/
theorem test_set_role_primary :
    ((after (.setRole [0x01#8]) (commanded State.reset)).journal.entries.map (fun e => e.seq)) = [0#12, 1#12, 2#12] ∧
      (after (.setRole [0x01#8]) (commanded State.reset)).journal.generation = 1#16 := by decide +kernel

/-- R44, R51: a write with mask 5 replaces bytes 0 and 2 of its word. -/
theorem test_host_write_mask :
    ((after (.hostTransaction (.write { addr := 9#22, mask := 5#4, data := 0xAABBCCDD#32 })) State.reset).mem.word 9) =
      0x00BB00DD#32 := by decide +kernel

/-- R100: the bytes of a LINK frame between START and END reach the delivery logic as that frame. -/
theorem test_link_frame_received :
    checkFrame .primary (Frame.link { ack := 5#12, limit := 37#12, nak := true, reject := false }).bytes =
      .good (.link { ack := 5#12, limit := 37#12, nak := true, reject := false }) := by decide +kernel

/-- R197: the bytes of a LINK frame before its CRC, field by field. -/
theorem test_link_frame_body :
    (Frame.link { ack := 0x123#12, limit := 0xFFF#12, nak := true, reject := true }).body =
      [0x02#8, 0x01#8, 0x23#8, 0x0F#8, 0xFF#8, 0x03#8] := by decide +kernel

/-- R93, R109: the lane of a part whose DATA frame a LINK_DISABLE has aborted ends with ABORT. -/
theorem test_lane_carries_abort : ∃ n,
    transmitLane (after .linkDisable (commanded (awaitingAck true))) = .abortedFrame (abortedSymbols [] n) :=
  ⟨_, rfl⟩

/-- R182: the take that empties the queue of a promoting SECONDARY makes it PRIMARY. -/
theorem test_promotion_with_the_last_entry :
    (after .applyTake ((secondary .off [{ seq := 99#12, content := .generation 8#16 }]).setPart
      { role := .secondary, promotionPending := true, forced := false })).part.role = .primary := by decide +kernel

/-- R196: an unaligned receiver lets no frame through: from reset a HELLO changes nothing. -/
theorem test_unaligned_hello : exec (.helloReceived (peerHello 0#12 true)) State.reset = .next State.reset := rfl

/-- R196: START is the control character 0x01: start bit 0, control flag 1, value, parity bit 1 (three ones), stop
bit 1. -/
theorem test_start_character : decodeCharacter 0b010000000111#12 = .start := by decide +kernel

/-! ## States and operands that meet the statements' hypotheses

One theorem per statement, each clause with a state of its own, at the bounds of its ranges where it has any. -/

theorem meets_power_and_pin_reset :
    State.reset.port.holder ≠ .apply ∧ applying.port.holder = .apply ∧
      applying.applyq.engine = .writing { seq := 99#12, content := word 3 } ∧
      (State.reset.setInReset true).inReset = true ∧
      Instr.readId.wellFormed = true := by decide +kernel

/-- A part whose transaction has selected SOFT_RESET. -/
def selected (s : State) : State := s.setMgmt { csLow := true, phase := .response [0x01#8] true }

theorem meets_soft_reset :
    (selected holding).inReset = false ∧ isStalled (selected holding) = false ∧
      hostRequests (selected holding) = false ∧
      syncedDue (selected holding) = false ∧ holding.journal.entries.any (fun e => e.held) = true ∧
      holding.host.state = .held (hostWrite 256) ∧ (bursting 16 false).copy.engine = .reading 0 16 false ∧
      syncedDue (bursting 16 false) = false ∧ copyReading holding = false ∧
      applying.applyq.engine = .writing { seq := 99#12, content := word 3 } ∧
      (primary .up .clean [] 0#12 0#12).journal.entries.any (fun e => e.held) = false := by decide +kernel

/-- A PRIMARY in UP, every window CLEAN, that owes a sync. -/
def owingSync : State :=
  let s := primary .up .clean (readyEntries 64) 64#12 0#12
  s.setCopy { s.copy with syncOwed := true }

/-- The same with a host write waiting behind a burst. -/
def waitingHost : State :=
  { owingSync with host := { state := .request (.write (hostWrite 3)) true false, completion := none }
                   port := { holder := .burst, lastGrant := .engine }
                   copy := { owingSync.copy with engine := .reading 0 16 false } }

theorem meets_soft_reset_synced_due :
    (selected waitingHost).inReset = false ∧ isStalled waitingHost = false ∧ hostRequests waitingHost = true ∧
      waitingHost.port.holder ≠ .idle ∧ syncedDue waitingHost = true ∧ syncedDue owingSync = true ∧
      hostRequests owingSync = false := by decide +kernel

theorem meets_soft_reset_stalled :
    (selected stalledPrimary).mgmt = { csLow := true, phase := .response [0x01#8] true } ∧
      stalledPrimary.host = { state := .stalled (hostWrite 3), completion := none } ∧
      stalledPrimary.port.holder = .idle ∧ stalledPrimary.applyq.engine = .idle ∧ syncedDue stalledPrimary = false ∧
      stalledPrimary.journal.entries.any (fun e => e.held) = false ∧
      stalledPrimary.mem.fits (hostWrite 3).addr.toNat = true ∧ stalledPrimary.mem.wf := by decide +kernel

/-- The stalled write behind a burst. -/
def stalledBehindBurst : State :=
  { stalledPrimary with port := { holder := .burst, lastGrant := .engine }
                        copy := { stalledPrimary.copy with engine := .reading 0 16 false } }

theorem meets_soft_reset_stalled_waits :
    stalledBehindBurst.host = { state := .stalled (hostWrite 3), completion := none } ∧
      stalledBehindBurst.port.holder ≠ .idle ∧ stalledBehindBurst.applyq.engine = .idle ∧
      stalledBehindBurst.journal.entries.any (fun e => e.held) = false := by decide +kernel

theorem meets_transactions :
    State.reset.mgmt.csLow = false ∧ (commanded State.reset).mgmt.csLow = true ∧
      (commanded State.reset).mgmt.phase = .command ∧ (∀ c ∈ mgmtCommands, c.code ≠ 0x00#8) ∧
      Commanded (commanded State.reset) ∧ ([] : List Byte).length < 1 ∧ [0x00#8].length < 2 ∧
      MgmtCommand.writeStagedWindow ∈ mgmtCommands ∧
      (List.replicate 7 0xFF#8).length = MgmtCommand.writeStagedWindow.argCount ∧
      (∀ c ∈ mgmtCommands, c.code ≠ 0xFF#8) := by decide +kernel

theorem meets_transactions_deselect : ∀ bytes, (commanded State.reset).mgmt.phase ≠ .response bytes true := by
  intro bytes h
  cases h

theorem meets_read_id :
    Commanded (commanded State.reset) ∧ Arriving (primary .seek .clean [] 0#12 0#12) ∧
      Arriving (primary .up .clean [] 0#12 0#12) ∧
      (Frame.hello { peerHello 0#12 false with revision := 2#8 }).wellFormed = true ∧
      (primary .seek .clean [] 0#12 0#12).session.state = .seek ∧
      (primary .up .clean [] 0#12 0#12).session.state = .up := by decide +kernel

theorem meets_status_record :
    Commanded (commanded (bursting 16 false)) ∧ (bursting 16 false).applyq.lastApplied = none ∧
      (after .applyOperationCompletion applying).applyq.lastApplied = some 99#12 ∧
      (bursting 16 false).copy.states[(0 : WindowId)] = .copying 16 ∧
      (∀ j : WindowId, (bursting 16 false).copy.states[j].isCopying = true → j = 0) ∧
      (∀ i : WindowId, State.reset.copy.states[i].isCopying = false) := by decide +kernel

theorem meets_events_and_counters :
    Commanded (commanded (raise .linkUp State.reset)) ∧ 15 ≤ (0x0F#8).toNat := by decide +kernel

theorem meets_enables_and_attention :
    Commanded (commanded State.reset) ∧ State.reset.inReset = false ∧ (State.reset.setInReset true).inReset = true := by
  decide +kernel

theorem meets_register_reads :
    Commanded (commanded (bursting 16 false)) ∧ 2 ≤ (0x02#8).toNat ∧ 16 ≤ (0x10#8).toNat ∧ 9 ≤ (0x09#8).toNat ∧
      (0x08#8).toNat < 9 ∧ (bursting 16 false).copy.states[(0 : WindowId)] = .copying 16 ∧
      State.reset.copy.states[(15 : WindowId)] = .untracked ∧
      (primary .up .pending [] 0#12 0#12).copy.states[(0 : WindowId)] = .pending ∧
      (primary .up .clean [] 0#12 0#12).copy.states[(0 : WindowId)] = .clean := by decide +kernel

/-- A PRIMARY with a commit pending. -/
def committing (st : SessionState) (entries : List Entry) (next : Seq) : State :=
  let s := primary st .clean entries next (next - BitVec.ofNat 12 entries.length)
  s.setTable { s.table with commitPending := true }

theorem meets_write_staged_window :
    Commanded (commanded State.reset) ∧ (committing .up [] 0#12).table.commitPending = true ∧
      State.reset.table.commitPending = false ∧ 16 ≤ (0x10#8).toNat ∧ 2 ≤ (0x02#8).toNat ∧
      16384 ≤ (0x40#8 ++ 0x00#8).toNat ∧ (0x00#8 ++ 0x00#8).toNat = 0 ∧ 16385 ≤ (0x40#8 ++ 0x01#8).toNat ∧
      (0x0F#8).toNat = (15 : WindowId).val ∧ (0x3F#8 ++ 0xFF#8).toNat ≤ 16383 ∧ 1 ≤ (0x00#8 ++ 0x01#8).toNat ∧
      (0x40#8 ++ 0x00#8).toNat ≤ 16384 ∧ 0x01#8 = modeByte .sync := by decide +kernel

theorem meets_copy_active_to_staged :
    Commanded (commanded (committing .up [] 0#12)) ∧ (committing .up [] 0#12).table.commitPending = true ∧
      State.reset.table.commitPending = false ∧ BanksSound (commanded (primary .up .clean [] 0#12 0#12)) := by
  decide +kernel

theorem meets_commit_table :
    Commanded (commanded State.reset) ∧ (secondary .off []).part.role = .secondary ∧
      (committing .up [] 0#12).part.role ≠ .secondary ∧ (committing .up [] 0#12).table.commitPending = true ∧
      bankValid overlapping 16384 = false ∧ State.reset.part.role = .detached ∧ bankValid bank 16384 = true ∧
      (primary .up .clean [] 0#12 0#12).part.role = .primary ∧
      (primary .up .clean (readyEntries 64) 64#12 0#12).journal.entries.length = 64 ∧
      (primary .up .clean (readyEntries 63) 63#12 0#12).journal.entries.length < 64 := by decide +kernel

/-- A PRIMARY that owes a sync, every present window CLEAN, with n entries. -/
def owing (n : Nat) (pending : Bool) : State :=
  let s := primary .up .clean (readyEntries n) (BitVec.ofNat 12 n) 0#12
  (s.setCopy { s.copy with syncOwed := true }).setTable { s.table with commitPending := pending }

theorem meets_commit_and_synced_complete :
    (owing 63 true).table.commitPending = true ∧ (owing 63 true).journal.entries.length = 63 ∧
      (owing 62 true).journal.entries.length < 63 ∧ (owing 62 true).copy.syncOwed = true ∧
      64 ≤ (owing 64 true).journal.entries.length ∧ (owing 62 false).table.commitPending = false ∧
      (∀ i : WindowId, (owing 62 false).table.active[i].present = true → (owing 62 false).copy.states[i] = .clean) ∧
      (∀ i : WindowId, (owing 62 true).table.staged[i].present = true →
        (after .commitCompletion (owing 62 true)).copy.states[i] = .clean) ∧
      (∃ i : WindowId, (primary .up .pending [] 0#12 0#12).table.active[i].present = true ∧
        (primary .up .pending [] 0#12 0#12).copy.states[i] ≠ .clean) := by decide +kernel

theorem meets_set_config :
    Commanded (commanded State.reset) ∧ 9 ≤ (0x09#8).toNat ∧ (secondary .off []).part.role ≠ .detached ∧
      State.reset.part.role = .detached ∧ (0x08#8).toNat < 9 ∧ (0x40#8 ++ 0x00#8).toNat = 16384 ∧
      (0x00#8 ++ 0x0F#8).toNat = 15 ∧ (0x00#8 ++ 0xFF#8).toNat = 255 ∧ ¬(0x01#8 ++ 0x00#8).toNat ≤ 255 ∧
      (∃ i : WindowId, bank[i].present = true ∧ (0x00#8 ++ 0x01#8).toNat < bank[i].basePage + bank[i].pageCount) ∧
      (∀ i : WindowId, bank[i].present = true → bank[i].basePage + bank[i].pageCount ≤ (0x00#8 ++ 0x02#8).toNat) := by
  decide +kernel

/-- A SECONDARY with a promotion pending, its queue empty or not. -/
def promoting (queue : List DataFrame) : State :=
  (secondary .off queue).setPart { role := .secondary, promotionPending := true, forced := false }

theorem meets_set_role_tests :
    Commanded (commanded State.reset) ∧ 3 ≤ (0x03#8).toNat ∧ (primary .up .clean [] 0#12 0#12).session.state ≠ .off ∧
      State.reset.session.state = .off ∧ (committing .off [] 0#12).table.commitPending = true ∧
      (promoting []).part.promotionPending = true ∧
      (secondary .off [{ seq := 99#12, content := word 3 }]).applyq.count ≠ 0 ∧ copyReading (bursting 16 false) = true ∧
      (secondary .off []).applyq.count = 0 ∧ copyReading (primary .off .clean [] 0#12 0#12) = false ∧
      Role.detached = State.reset.part.role ∧ Role.primary ≠ State.reset.part.role := by decide +kernel

/-- A PRIMARY in OFF with a held or a stalled write. -/
def offWith (s : State) : State := commanded (s.setSession { s.session with state := .off })

theorem meets_role_changes :
    Commanded (offWith holding) ∧ (offWith holding).session.state = .off ∧
      (offWith holding).table.commitPending = false ∧ (offWith holding).part.promotionPending = false ∧
      Role.detached ≠ (offWith holding).part.role ∧ copyReading (offWith holding) = false ∧
      (offWith holding).journal.entries.any (fun e => e.held) = true ∧
      (offWith holding).host.state = .held (hostWrite 256) ∧
      (offWith stalledPrimary).host.state = .stalled (hostWrite 3) ∧
      (offWith stalledPrimary).journal.entries.any (fun e => e.held) = false ∧
      Commanded (commanded (secondary .off [])) ∧ (secondary .off []).applyq.count = 0 ∧
      Role.detached ≠ (secondary .off []).part.role ∧ Role.secondary ≠ State.reset.part.role := by decide +kernel

theorem meets_becoming_primary :
    (commanded (secondary .off [])).session.state = .off ∧ (commanded (secondary .off [])).mgmt.phase = .command ∧
      (secondary .off []).part.role ≠ .primary ∧ (secondary .off []).applyq.count = 0 ∧
      (promoting []).part.promotionPending = true ∧ (promoting []).applyq.count = 0 ∧
      (promoting [{ seq := 99#12, content := word 3 }]).applyq.count ≠ 0 ∧
      (∃ i : WindowId, (secondary .off []).table.active[i].present = true) ∧
      (∀ i : WindowId, State.reset.table.active[i].present = false) := by decide +kernel

theorem meets_promote :
    Commanded (commanded (secondary .off [])) ∧ 2 ≤ (0x02#8).toNat ∧ State.reset.part.role ≠ .secondary ∧
      (secondary .off []).part.role = .secondary ∧ (secondary .off []).session.state = .off ∧
      (promoting []).part.promotionPending = true ∧ (secondary .off []).applyq.consistent = false ∧
      (secondary .off [{ seq := 99#12, content := word 3 }]).applyq.count ≠ 0 ∧
      (secondary .off []).applyq.count = 0 := by decide +kernel

theorem meets_link_enable :
    Commanded (commanded (secondary .off [])) ∧ RoleSound (commanded State.reset) ∧
      (commanded State.reset).part.role = .detached := by decide +kernel

theorem meets_link_disable :
    Commanded (commanded (awaitingAck true)) ∧ (awaitingAck true).session.state = .up ∧
      (awaitingAck true).journal.heldRewind = none ∧ (heldBack 5#12).journal.heldRewind = some 5#12 ∧
      (heldBack 5#12).session.state = .up ∧ (heldBack 5#12).tx.sending ≠ none ∧
      (secondary .seek []).session.state = .seek ∧ (secondary .off []).session.state = .off ∧
      (secondary .closing []).session.state = .closing ∧
      (secondary .fault []).session.state = .fault := by decide +kernel

theorem meets_start_resync :
    Commanded (commanded stalledPrimary) ∧ stalledPrimary.part.role = .primary ∧
      stalledPrimary.host.state = .stalled (hostWrite 3) ∧ holding.part.role = .primary ∧
      holding.journal.entries.any (fun e => e.held) = true ∧
      (secondary .off []).part.role ≠ .primary := by decide +kernel

/-- A host access at the memory port, an entry waiting behind it or not. -/
def accessing (t : HostTxn) (holder : PortHolder) (waits : Bool) : State :=
  let s := secondary .up []
  { s with host := { state := .access t, completion := none }
           port := { holder := holder, lastGrant := .host }
           applyq := { s.applyq with engine := if waits then .waiting { seq := 99#12, content := word 3 } else .idle } }

/-- A host read at the memory port with a copy burst waiting behind it. -/
def accessingBeforeBurst : State :=
  let s := primary .up (.copying 16) [] 0#12 0#12
  { s with host := { state := .access (.read 5#22), completion := none }
           port := { holder := .hostRead, lastGrant := .host }
           copy := { s.copy with engine := .waiting 0 16 } }

theorem meets_host_accesses_before_burst :
    accessingBeforeBurst.port.holder = .hostRead ∧ accessingBeforeBurst.host.state = .access (.read 5#22) ∧
      accessingBeforeBurst.copy.engine = .waiting 0 16 ∧ accessingBeforeBurst.applyq.engine = .idle := by
  decide +kernel

theorem meets_host_accesses :
    (accessing (.read 5#22) .hostRead true).host.state ≠ .idle ∧ applying.host.state = .idle ∧
      applying.port.holder ≠ .idle ∧ HostFree State.reset ∧
      (accessing (.read 5#22) .hostRead true).host.state = .access (.read 5#22) ∧
      (accessing (.read 5#22) .hostRead true).mem.fits (5#22 : Addr).toNat = true ∧
      (accessing (.read 5#22) .hostRead true).applyq.engine = .waiting { seq := 99#12, content := word 3 } ∧
      engineRequests (accessing (.read 5#22) .hostRead false) = false ∧
      (accessing (.write (hostWrite 5)) .hostWrite false).host.state = .access (.write (hostWrite 5)) ∧
      (accessing (.write (hostWrite 5)) .hostWrite true).applyq.engine = .waiting { seq := 99#12, content := word 3 } ∧
      holding.hold.holding = true ∧ State.reset.hold.holding = false := by decide +kernel

theorem meets_plain_write :
    HostFree State.reset ∧ bankValid State.reset.table.active State.reset.params.memPages = true ∧
      State.reset.mem.wf ∧ State.reset.mem.fits (hostWrite 0).addr.toNat = true ∧
      HostFree (primary .up .pending [] 0#12 0#12) ∧
      bankValid (primary .up .pending [] 0#12 0#12).table.active 16384 = true ∧
      (∀ i : WindowId, ¬FallsIn (primary .up .pending [] 0#12 0#12) (hostWrite 512).addr.toNat i) ∧
      FallsIn (primary .up .pending [] 0#12 0#12) (hostWrite 511).addr.toNat 1 ∧
      (primary .up .pending [] 0#12 0#12).copy.states[(1 : WindowId)] = .pending ∧
      (primary .up .pending [] 0#12 0#12).table.active[(1 : WindowId)].mode = .sync ∧
      FallsIn (primary .up .pending [] 0#12 0#12) (hostWrite 255).addr.toNat 0 ∧
      (primary .up .pending [] 0#12 0#12).table.active[(0 : WindowId)].mode = .async ∧
      (hostWrite 511).mask ≠ 0#4 := by decide +kernel

theorem meets_plain_write_at_cursor : PlainAt (primary .up (.copying 16) [] 0#12 0#12) 16 0 :=
  ⟨by decide, by decide +kernel, Or.inr ⟨16, by decide +kernel, by decide⟩⟩

theorem meets_write_refused :
    HostFree (promoting []) ∧ (promoting []).part.role = .secondary ∧
      FallsIn (promoting []) (hostWrite 0).addr.toNat 0 ∧ FallsIn (promoting []) (hostWrite 511).addr.toNat 1 ∧
      (hostWrite 0).mask ≠ 0#4 := by decide +kernel

/-- A PRIMARY in UP, window 0 CLEAN, with one OPEN entry of n words from address 0. -/
def opened (n : Nat) : State :=
  primary .up .clean [newEntry 5#12 (.write [{ window := 0, start := 0, words := List.replicate n (masked 15#4) }])
    .opened] 6#12 5#12

theorem meets_capture_into_journal :
    HostFree (opened 15) ∧ bankValid (opened 15).table.active (opened 15).params.memPages = true ∧
      FallsIn (opened 15) (hostWrite 15).addr.toNat 0 ∧ (opened 15).copy.states[(0 : WindowId)] = .clean ∧
      (opened 15).part.role = .primary ∧ (hostWrite 15).mask ≠ 0#4 ∧
      (opened 15).table.active[(0 : WindowId)].mode = .async ∧ (opened 15).mem.wf ∧
      (opened 15).mem.fits (hostWrite 15).addr.toNat = true ∧
      ((opened 15).journal.openRuns.bind (fun rs => coalesce rs 0 (hostWrite 15))).isSome = true ∧
      ((opened 16).journal.openRuns.map (fun rs => coalesce rs 0 (hostWrite 16))) = some none ∧
      (primary .up .clean (readyEntries 63) 63#12 0#12).journal.openRuns = none ∧
      (primary .up .clean (readyEntries 63) 63#12 0#12).journal.entries.length < 64 := by decide +kernel

theorem meets_capture_behind_cursor : CapturedAt (primary .up (.copying 16) [] 0#12 0#12) 15 0 :=
  ⟨by decide, by decide +kernel, Or.inr ⟨16, by decide +kernel, by decide⟩⟩

/-- Runs of window 0: n words from address 0, and three single words apart. -/
def runs (n : Nat) : List Run :=
  { window := 0, start := 0, words := List.replicate n (masked 15#4) } ::
    [40, 50, 60].map (fun a => { window := 0, start := a, words := [masked 15#4] })

theorem meets_coalescing_tests :
    (∀ r ∈ runs 12, r.words ≠ []) ∧
      (∃ r ∈ runs 12, r.start ≤ (hostWrite 11).addr.toNat ∧ (hostWrite 11).addr.toNat < r.start + r.words.length) ∧
      (∀ r ∈ runs 12, ¬(r.start ≤ (hostWrite 12).addr.toNat ∧ (hostWrite 12).addr.toNat < r.start + r.words.length)) ∧
      wordCount (runs 12) = 15 ∧ wordCount (runs 13) = 16 ∧ (runs 12).length = 4 ∧ ((runs 12).take 3).length < 4 ∧
      (∀ r ∈ runs 12, ¬(r.window = (0 : WindowId).val ∧ r.start + r.words.length = (hostWrite 39).addr.toNat)) := by
  decide +kernel

theorem meets_coalescing_keeps_memory :
    State.reset.mem.wf ∧
      (runs 12).Pairwise (fun q r => q.start + q.words.length ≤ r.start ∨ r.start + r.words.length ≤ q.start) ∧
      (∀ r ∈ runs 12, ∀ k < r.words.length, State.reset.mem.fits (r.start + k) = true) ∧
      State.reset.mem.fits (hostWrite 12).addr.toNat = true ∧ (coalesce (runs 12) 0 (hostWrite 12)).isSome = true := by
  decide +kernel

/-- A PRIMARY in UP with a full journal under a code of STALL_TIMEOUT. -/
def full (code : Nat) : State :=
  let s := primary .up .clean (readyEntries 64) 64#12 0#12
  s.setParams { s.params with stallTimeout := code }

theorem meets_full_journal_stalls :
    HostFree (full 0) ∧ bankValid (full 0).table.active (full 0).params.memPages = true ∧
      (full 0).part.role = .primary ∧ FallsIn (full 0) (hostWrite 255).addr.toNat 0 ∧
      (full 0).copy.states[(0 : WindowId)] = .clean ∧ (hostWrite 255).mask ≠ 0#4 ∧
      (full 0).journal.entries.length = 64 ∧ (full 0).journal.openRuns = none ∧ (full 0).params.stallTimeout = 0 ∧
      (full 254).params.stallTimeout = 254 ∧ (full 255).params.stallTimeout = 255 ∧ (full 0).mem.wf ∧
      (full 0).mem.fits (hostWrite 255).addr.toNat = true := by decide +kernel

theorem meets_sync_capture_held :
    HostFree (primary .up .clean [] 0#12 0#12) ∧ bankValid (primary .up .clean [] 0#12 0#12).table.active 16384 = true ∧
      FallsIn (primary .up .clean [] 0#12 0#12) (hostWrite 256).addr.toNat 1 ∧
      (primary .up .clean [] 0#12 0#12).copy.states[(1 : WindowId)] = .clean ∧ (hostWrite 256).mask ≠ 0#4 ∧
      (primary .up .clean [] 0#12 0#12).table.active[(1 : WindowId)].mode = .sync ∧
      (primary .up .clean [] 0#12 0#12).mem.fits (hostWrite 256).addr.toNat = true ∧
      (primary .up .clean [] 0#12 0#12).mem.wf ∧
      (primary .up .clean [] 0#12 0#12).journal.openRuns = none ∧
      (primary .up .clean (readyEntries 63) 63#12 0#12).journal.entries.length < 64 ∧
      (primary .up .clean (readyEntries 63) 63#12 0#12).journal.openRuns = none ∧
      (primary .seek .clean [] 0#12 0#12).session.state ≠ .up := by decide +kernel

/-- The same journal with an OPEN entry of n words from address 256. -/
def openedSync (n : Nat) : State :=
  primary .up .clean [newEntry 5#12 (.write [{ window := 1, start := 256, words := List.replicate n (masked 15#4) }])
    .opened] 6#12 5#12

theorem meets_sync_capture_merged :
    HostFree (openedSync 15) ∧ CapturedAt (openedSync 15) (hostWrite 271).addr.toNat 1 ∧
      ((openedSync 15).journal.openRuns.bind (fun rs => coalesce rs 1 (hostWrite 271))).isSome = true ∧
      ((openedSync 15).journal.openRuns.bind (fun rs => coalesce rs 1 (hostWrite 256))).isSome = true ∧
      ((openedSync 16).journal.openRuns.map (fun rs => coalesce rs 1 (hostWrite 272))) = some none ∧
      (openedSync 16).journal.entries.length < 64 := by
  refine ⟨?_, ⟨?_, ?_, .inl ?_⟩, ?_⟩ <;> decide +kernel

/-- The held write still at the memory port. -/
def holdingAtPort : State :=
  { holding with host := { state := .access (.write (hostWrite 256)), completion := none }
                 port := { holder := .hostWrite, lastGrant := .host } }

theorem meets_hold_times_out :
    State.reset.hold.timer = none ∧ holding.hold.holding = true ∧ holding.hold.timer ≠ none ∧
      holding.host.state = .held (hostWrite 256) ∧ holdingAtPort.hold.holding = true ∧
      holdingAtPort.host.state = .access (.write (hostWrite 256)) ∧ holdingAtPort.port.holder = .hostWrite := by
  decide +kernel

/-- A write whose stall has ended, window 0 PENDING. -/
def represented : State :=
  { primary .seek .pending [] 0#12 0#12 with
    host := { state := .request (.write (hostWrite 3)) false false, completion := none } }

theorem meets_stall_ends :
    stalledPrimary.capture.stallTimer ≠ none ∧ stalledPrimary.host.state = .stalled (hostWrite 3) ∧
      State.reset.capture.stallTimer = none ∧
      represented.host = { state := .request (.write (hostWrite 3)) false false, completion := none } ∧
      represented.port.holder = .idle ∧ engineRequests represented = false ∧
      bankValid represented.table.active represented.params.memPages = true ∧ represented.part.role = .primary ∧
      FallsIn represented (hostWrite 3).addr.toNat 0 ∧ represented.copy.states[(0 : WindowId)] = .pending ∧
      represented.table.active[(0 : WindowId)].mode = .async ∧ (hostWrite 3).mask ≠ 0#4 ∧ represented.mem.wf ∧
      represented.mem.fits (hostWrite 3).addr.toNat = true := by decide +kernel

theorem meets_timers_expire :
    State.reset.capture.sealTimer = none ∧ (bursting 16 false).capture.sealTimer ≠ none ∧
      State.reset.session.helloTimer = none ∧ (secondary .seek []).session.helloTimer ≠ none ∧
      (secondary .seek []).session.state = .seek ∧
      (after (.helloReceived (peerHello 0#12 true)) (primary .up .clean [] 0#12 0#12)).session.helloTimer ≠ none ∧
      (after (.helloReceived (peerHello 0#12 true)) (primary .up .clean [] 0#12 0#12)).session.state = .up ∧
      State.reset.acker.statusTimer = none ∧ (secondary .up []).acker.statusTimer ≠ none := by decide +kernel

/-- A transmitter with frames due. -/
def due (s : State) (bye : Option ByeReason) (hello link : Bool) : State :=
  { s with tx := { s.tx with byeDue := bye, helloDue := hello }, acker := { s.acker with linkPending := link } }

theorem meets_frame_start_order :
    (awaitingAck true).tx.sending ≠ none ∧
      (due (secondary .closing []) (some .disabled) true true).tx.byeDue = some .disabled ∧
      (due (secondary .up []) none true true).tx.helloDue = true ∧
      (due (secondary .up []) none true true).tx.byeDue = none ∧
      (due (secondary .up []) none false true).acker.linkPending = true ∧
      (due (secondary .up []) none false true).session.state = .up ∧
      (awaitingAck false).journal.entryAt (awaitingAck false).journal.sendPoint = some (entry 7#12 .ready) ∧
      seqPrecedes (awaitingAck false).journal.sendPoint (awaitingAck false).sender.peerLimit = true ∧
      seqPrecedes 7#12 7#12 = false ∧ (awaitingAck false).tx.sending = none ∧
      (awaitingAck false).tx.byeDue = none ∧ (awaitingAck false).tx.helloDue = false := by decide +kernel

/-- A PRIMARY in UP sending the DATA frame of entry 7, a rewind held behind it or not, the ack timer running or not. -/
def sendingSeven (rewindTo : Option Seq) (timer : Timer) : State :=
  let s := awaitingAck true
  { s with journal := { s.journal with heldRewind := rewindTo }, sender := { s.sender with ackTimer := timer } }

/-- A part with a control frame in transmission. -/
def sendingControl (s : State) (k : TxKind) : State := s.setTx { s.tx with sending := some { kind := k, bytes := [] } }

theorem meets_frame_ends :
    JournalSound (sendingSeven none (some 200)) ∧ JournalSound (sendingSeven (some 5#12) none) ∧
      (sendingSeven none (some 200)).tx.sending =
        some { kind := .data (sendingSeven none (some 200)).journal.sendPoint, bytes := [] } ∧
      (sendingSeven none (some 200)).journal.heldRewind = none ∧
      (sendingSeven (some 5#12) none).journal.heldRewind = some 5#12 ∧
      (sendingSeven (some 5#12) none).sender.ackTimer = none ∧
      (sendingControl (secondary .up []) .link).tx.sending = some { kind := .link, bytes := [] } ∧
      (sendingControl (secondary .closing []) (.bye .disabled)).session.state = .closing ∧
      (sendingControl (secondary .fault []) (.bye .fault)).session.state = .fault ∧
      (after .frameEnd (sendingControl (secondary .up []) .link)).tx.sending = none ∧
      (after .frameEnd (sendingControl (secondary .up []) .link)).tx.lastEnding = .ended := by decide +kernel

theorem meets_link_frame_taken :
    Arriving (awaitingAck true) ∧ Arriving (awaitingAck false) ∧ (awaitingAck true).part.role = .primary ∧
      (awaitingAck true).session.state = .up ∧
      JournalSound (awaitingAck true) ∧ JournalSound (awaitingAck false) ∧
      seqLiesIn 8#12 (awaitingAck true).journal.oldest (awaitingAck true).journal.sendPoint = false ∧
      seqLiesIn 5#12 (awaitingAck true).journal.oldest (awaitingAck true).journal.sendPoint = true ∧
      seqLiesIn 7#12 (awaitingAck true).journal.oldest (awaitingAck true).journal.sendPoint = true ∧
      (39#12 - 7#12 : Seq).toNat ≤ 32 ∧ 32 < (40#12 - 7#12 : Seq).toNat ∧ sendingData (awaitingAck true) = true ∧
      sendingData (awaitingAck false) = false ∧
      (awaitingAck true).journal.entries.filter (fun e => seqPrecedes e.seq 7#12) ≠ [] ∧
      (awaitingAck true).journal.entries.filter (fun e => seqPrecedes e.seq 5#12) = [] := by decide +kernel

/-- The held entry sent. -/
def holdingSent : State :=
  holding.setJournal { holding.journal with
    entries := [{ entry 5#12 .inflight with held := true }], sendPoint := 6#12 }

theorem meets_link_frame_releases_hold :
    Arriving holdingSent ∧ JournalSound holdingSent ∧
      (holdingSent.journal.entries.filter (fun e => seqPrecedes e.seq 6#12)).any (fun e => e.held) = true ∧
      holdingSent.host.state = .held (hostWrite 256) := by decide +kernel

/-- A PRIMARY in UP or SEEK with a stalled write, its oldest entry SYNCED and INFLIGHT. -/
def syncedSent (st : SessionState) : State :=
  { primary st .clean [newEntry 5#12 (.synced 7#16) .inflight, entry 6#12 .ready] 7#12 6#12 with
    host := { state := .stalled (hostWrite 3), completion := none } }

theorem meets_link_frame_releases_synced :
    Arriving (syncedSent .up) ∧ JournalSound (syncedSent .up) ∧
      seqLiesIn 6#12 (syncedSent .up).journal.oldest (syncedSent .up).journal.sendPoint = true ∧
      ((syncedSent .up).journal.entries.filter (fun e => seqPrecedes e.seq 6#12)).any Entry.isSynced = true ∧
      (syncedSent .up).host.state = .stalled (hostWrite 3) := by decide +kernel

/-- A PRIMARY in UP that has answered n rejections. -/
def rejected (n : Nat) : State :=
  let s := awaitingAck true
  s.setSession { s.session with rejectRestarts := n }

theorem meets_peer_rejects :
    Arriving (rejected 2) ∧ (rejected 2).part.role = .primary ∧ (rejected 2).session.state = .up ∧
      (rejected 2).session.rejectRestarts < 3 ∧ Arriving (rejected 3) ∧ (rejected 3).session.rejectRestarts = 3 ∧
      (rejected 3).journal.heldRewind = none ∧ (heldBack 5#12).journal.heldRewind = some 5#12 ∧
      (heldBack 5#12).tx.sending ≠ none ∧ Arriving (heldBack 5#12) := by decide +kernel

theorem meets_ack_timer_and_losses :
    State.reset.sender.ackTimer = none ∧ (awaitingAck true).sender.ackTimer ≠ none ∧
      (awaitingAck true).sender.retryCount + 1 < (awaitingAck true).params.retryLimit ∧
      JournalSound (awaitingAck true) ∧
      JournalSound (awaitingAck false) ∧ sendingData (awaitingAck true) = true ∧
      sendingData (awaitingAck false) = false ∧ lastRetry.sender.ackTimer ≠ none ∧
      lastRetry.params.retryLimit = lastRetry.sender.retryCount + 1 ∧ lastRetry.session.state = .up ∧
      Arriving (secondary .up []) ∧ (secondary .up []).session.state = .up ∧
      (secondary .seek []).session.state = .seek ∧ (secondary .up []).rx.silenceTimer ≠ none ∧
      Arriving (heldBack 4095#12) ∧ (heldBack 4095#12).session.state = .up ∧
      (heldBack 4095#12).journal.heldRewind = some 4095#12 ∧
      seqPrecedes 4095#12 (heldBack 4095#12).journal.oldest = true ∧ (heldBack 4095#12).tx.sending ≠ none ∧
      (heldBack 7#12).journal.heldRewind = some (heldBack 7#12).journal.sendPoint ∧
      State.reset.rx.silenceTimer = none := by decide +kernel

/-- A SECONDARY in UP with a frame in its buffer. -/
def framing (f : Framing) : State :=
  let s := secondary .up []
  s.setRx { s.rx with framing := f }

/-- The character of a symbol. -/
def character (sym : Symbol) : Character := (encodeSymbol sym).getD 0#12

theorem meets_symbol_taken :
    State.reset.rx.aligned = false ∧ (secondary .off []).session.state = .off ∧ (framing .hunt).rx.aligned = true ∧
      (framing .hunt).session.state ≠ .off ∧ decodeCharacter (character .start) = .start ∧
      decodeCharacter (character .fill) = .fill ∧ decodeCharacter (character .abort) = .abort ∧
      decodeCharacter (character .stop) = .stop ∧ decodeCharacter (character (.data 0x5A#8)) = .data 0x5A#8 ∧
      decodeCharacter 0#12 = .invalid ∧ (List.replicate 111 0x00#8).length < 112 ∧
      112 ≤ (List.replicate 112 0x00#8).length ∧ checkFrame .secondary [0x00#8, 0x00#8] = .short ∧
      checkFrame .secondary [0x00#8, 0x00#8, 0x00#8] = .crcFailure ∧
      checkFrame .secondary (Frame.bye .fault).bytes = .good (.bye .fault) ∧
      ((List.replicate 15 (character (.data 0x5A#8)) ++ [character .fill]).length = 16 ∧
        (∀ c ∈ List.replicate 15 (character (.data 0x5A#8)) ++ [character .fill],
          charBit c 0 = false ∧ decodeCharacter c ≠ .invalid) ∧
        ∃ c ∈ List.replicate 15 (character (.data 0x5A#8)) ++ [character .fill], charBit c 1 = true) :=
        by decide +kernel

/-- A part with the good frames of a list on their way, aligned or not. -/
def onTheWay (s : State) (good : List Frame) (aligned : Bool) : State :=
  s.setRx { s.rx with good := good, aligned := aligned }

theorem meets_frames_on_their_way :
    (Frame.bye .fault).wellFormed = true ∧
      (onTheWay (secondary .up []) [.bye .fault, .bye .disabled] false).rx.good = [.bye .fault, .bye .disabled] ∧
      Frame.bye .fault ≠ .bye .disabled ∧ (onTheWay (secondary .up []) [.bye .fault] true).session.state = .up ∧
      (onTheWay (secondary .closing []) [.bye .fault] true).session.state = .closing ∧
      (onTheWay (secondary .up []) [] false).rx.aligned = false ∧
      (onTheWay (secondary .closing []) [] true).session.state ≠ .up := by decide +kernel

theorem meets_hello_judged_in_seek :
    Arriving (primary .seek .clean [] 6#12 6#12) ∧ Arriving (secondary .seek []) ∧
      (primary .seek .clean [] 6#12 6#12).session.state = .seek ∧
      (peerHello 7#12 false).role ≠ .detached ∧ (peerHello 7#12 false).revision = 1#8 ∧
      (primaryHello 7#16 0#12 0#12 false false).role = (primary .seek .clean [] 6#12 6#12).part.role ∧
      seqLiesIn (peerHello 7#12 false).next 6#12 6#12 = false ∧ seqLiesIn (peerHello 6#12 false).next 6#12 6#12 = true ∧
      (primary .seek .clean [] 6#12 6#12).journal.fresh = false ∧
      (after (.setRole [0x01#8]) (commanded State.reset)).journal.fresh = true ∧
      (primaryHello 9#16 0#12 0#12 false false).generation ≠ (secondary .seek []).applyq.streamGeneration ∧
      (primaryHello 9#16 0#12 0#12 false true).fresh = true ∧
      seqLiesIn (secondary .seek []).applyq.expected 98#12 100#12 = true ∧
      (secondary .seek []).session.seen = false ∧
      Resumes (primaryHello 7#16 98#12 100#12 false false) (secondary .seek []) ∧
      Resumes (peerHello 6#12 false) (primary .seek .clean [] 6#12 6#12) := by decide +kernel

theorem meets_entry_to_up :
    Arriving (primary .seek .clean [entry 5#12 .inflight, entry 6#12 .opened] 7#12 6#12) ∧
      Arriving (secondary .seek []) ∧
      JournalSound { primary .seek .clean [entry 5#12 .inflight, entry 6#12 .opened] 7#12 6#12 with
        capture := { stallTimer := none, sealTimer := some 16 } } ∧
      seqLiesIn (peerHello 7#12 true).next 5#12 7#12 = true ∧ seqLiesIn (peerHello 5#12 true).next 5#12 7#12 = true ∧
      (primary .seek .clean [entry 5#12 .inflight, entry 6#12 .opened] 7#12 6#12).journal.hasOpen = true ∧
      (peerHello 7#12 true).generation = (primary .seek .clean [] 7#12 7#12).journal.generation ∧
      (primaryHello 7#16 98#12 100#12 true false).generation = (secondary .seek []).applyq.streamGeneration ∧
      seqLiesIn (secondary .seek []).applyq.expected 98#12 100#12 = true := by decide +kernel

theorem meets_entry_to_up_releases :
    Arriving (syncedSent .seek) ∧ JournalSound (syncedSent .seek) ∧
      seqLiesIn (peerHello 6#12 true).next (syncedSent .seek).journal.oldest (syncedSent .seek).journal.nextSeq = true ∧
      ((syncedSent .seek).journal.entries.filter
        (fun e => seqPrecedes e.seq 6#12 && decide (e.state ≠ .opened))).any Entry.isSynced = true ∧
      (syncedSent .seek).host.state = .stalled (hostWrite 3) ∧
      Arriving (holdingSent.setSession { holdingSent.session with state := .seek }) ∧
      (holdingSent.journal.entries.filter
        (fun e => seqPrecedes e.seq 6#12 && decide (e.state ≠ .opened))).any (fun e => e.held) = true ∧
      (primaryHello 9#16 0#12 0#12 true true).fresh = true ∧
      (primaryHello 9#16 0#12 0#12 true true).generation ≠ (secondary .seek []).applyq.streamGeneration := by
  decide +kernel

theorem meets_hello_in_up :
    Arriving (primary .up .clean [] 6#12 6#12) ∧ Arriving (secondary .up []) ∧ Arriving (heldBack 5#12) ∧
      Resumes (peerHello 6#12 true) (primary .up .clean [] 6#12 6#12) ∧
      Resumes (primaryHello 7#16 98#12 100#12 false false) (secondary .up []) ∧
      ¬Resumes (peerHello 9#12 true) (primary .up .clean [] 6#12 6#12) ∧
      ¬Resumes (primaryHello 9#16 0#12 0#12 true true) (secondary .up []) ∧
      (peerHello 9#12 true).role ≠ .detached ∧
      (peerHello 9#12 true).role ≠ (primary .up .clean [] 6#12 6#12).part.role ∧
      (peerHello 9#12 true).role = (secondary .up []).part.role ∧
      (primary .up .clean [] 6#12 6#12).session.state = .up ∧
      (peerHello 6#12 true).generation = (primary .up .clean [] 6#12 6#12).journal.generation ∧
      seqLiesIn (peerHello 6#12 true).next (primary .up .clean [] 6#12 6#12).journal.oldest
        (primary .up .clean [] 6#12 6#12).journal.nextSeq = true ∧
      (primary .up .clean [] 6#12 6#12).session.helloTimer = none ∧
      (after (.helloReceived (peerHello 6#12 true)) (primary .up .clean [] 6#12 6#12)).session.helloTimer ≠ none ∧
      (primary .up .clean [] 6#12 6#12).journal.heldRewind = none ∧ (secondary .up []).session.state = .up ∧
      (primaryHello 7#16 98#12 100#12 false false).generation = (secondary .up []).applyq.streamGeneration := by
  decide +kernel

/-- n queued entries that end before seq 100. -/
def queued (n : Nat) : List DataFrame :=
  (List.range n).map (fun k => { seq := 100#12 - BitVec.ofNat 12 n + BitVec.ofNat 12 k, content := word 3 })

theorem meets_data_frame_taken :
    Arriving (secondary .up (queued 31)) ∧ Arriving (secondary .seek []) ∧
      (secondary .up (queued 31)).part.role = .secondary ∧
      (word 3).wellFormed = true ∧ (secondary .seek []).session.state = .seek ∧
      (secondary .up (queued 31)).applyq.count < 32 ∧ 32 ≤ (secondary .up (queued 32)).applyq.count ∧
      (100#12 : Seq) = (secondary .up (queued 31)).applyq.expected ∧ seqPrecedes 99#12 100#12 = true ∧
      (101#12 : Seq) ≠ 100#12 ∧ seqPrecedes 101#12 100#12 = false ∧ (secondary .up []).acker.nakArmed = true ∧
      (after (.dataReceived { seq := 101#12, content := word 3 }) (secondary .up [])).acker.nakArmed = false := by
  decide +kernel

/-- A SECONDARY with one queued entry of a content. -/
def taking (c : Content) : State := secondary .up [{ seq := 99#12, content := c }]

theorem meets_control_entries_taken :
    applying.applyq.engine ≠ .idle ∧ (secondary .up []).applyq.queue = [] ∧
      (taking (.generation 8#16)).applyq.engine = .idle ∧
      (taking (.generation 8#16)).applyq.queue = { seq := 99#12, content := .generation 8#16 } :: [] ∧
      (7#16 : Gen) = (taking (.synced 7#16)).applyq.dataGeneration ∧ (taking (.synced 7#16)).applyq.reject = false ∧
      (8#16 : Gen) ≠ (taking (.synced 8#16)).applyq.dataGeneration ∧ bankHeld bank ∧ bankValid bank 16384 = true ∧
      bankValid overlapping 16384 = false ∧
      (∀ i : WindowId, (0 : Nat) = i.val → (taking (word 256)).table.active[i].present = false ∨
        256 < (taking (word 256)).table.active[i].firstWord ∨ (taking (word 256)).table.active[i].endWord < 257 ∨
        256 * (taking (word 256)).params.memPages < 257) := by decide +kernel

/-- The same with a promotion pending. -/
def takingLast (c : Content) : State :=
  (taking c).setPart { role := .secondary, promotionPending := true, forced := false }

theorem meets_control_entries_promote :
    (takingLast (.synced 7#16)).part.promotionPending = true ∧
      (takingLast (.synced 7#16)).applyq.queue = { seq := 99#12, content := .synced 7#16 } :: [] ∧
      (taking (.synced 7#16)).part.promotionPending = false := by decide +kernel

/-- The last entry of a drain at the memory port, a host transaction waiting behind it or not. -/
def applyingLast (host : HostPort) : State :=
  { applying.setPart { role := .secondary, promotionPending := true, forced := false } with host := host }

/-- A host write waiting at the arbiter, to be performed plainly or not. -/
def requesting (plainly : Bool) : HostPort :=
  { state := .request (.write (hostWrite 3)) true plainly, completion := none }

theorem meets_word_entries_promote :
    (applyingLast State.reset.host).port.holder = .apply ∧ (applyingLast State.reset.host).copy.engine = .idle ∧
      (applyingLast State.reset.host).applyq.engine = .writing { seq := 99#12, content := word 3 } ∧
      (applyingLast State.reset.host).part.promotionPending = true ∧
      (applyingLast State.reset.host).applyq.queue = [] ∧ hostRequests (applyingLast State.reset.host) = false ∧
      (applyingLast (requesting false)).host = { state := .request (.write (hostWrite 3)) true false,
                                                 completion := none } ∧
      applying.part.promotionPending = false := by decide +kernel

theorem meets_word_entries_applied :
    (taking (word 255)).applyq.engine = .idle ∧
      (taking (word 255)).applyq.queue = { seq := 99#12, content := word 255 } :: [] ∧
      (∃ i : WindowId, (0 : Nat) = i.val ∧ (taking (word 255)).table.active[i].present = true ∧
        (taking (word 255)).table.active[i].firstWord ≤ 255 ∧ 256 ≤ (taking (word 255)).table.active[i].endWord ∧
        256 ≤ 256 * (taking (word 255)).params.memPages) ∧
      (taking (word 255)).port.holder = .idle ∧ hostRequests (taking (word 255)) = false ∧
      applying.port.holder = .apply ∧ applying.applyq.engine = .writing { seq := 99#12, content := word 3 } ∧
      applying.copy.engine = .idle ∧ hostRequests applying = false ∧
      (after (.hostTransaction (.read 5#22)) applying).host.state = .request (.read 5#22) true false :=
      by decide +kernel

/-- A PRIMARY in UP with its two windows in given states and n entries, its memory port free or not. -/
def copying (first second : CopyState) (n : Nat) (holder : PortHolder) : State :=
  let s := primary .up .pending (readyEntries n) (BitVec.ofNat 12 n) 0#12
  { s with copy := { s.copy with states := (s.copy.states.set 0 first).set 1 second }
           port := { s.port with holder := holder } }

theorem meets_copy_pick_and_request :
    56 < (copying .pending .pending 57 .idle).journal.entries.length ∧
      (copying .clean .pending 56 .idle).journal.entries.length ≤ 56 ∧
      (copying .clean .pending 56 .idle).part.role = .primary ∧ (copying .clean .pending 56 .idle).session.state = .up ∧
      (copying .clean .pending 56 .idle).copy.engine = .idle ∧
      (∀ j : WindowId, (copying .clean .pending 56 .idle).copy.states[j].isCopying = false) ∧
      (copying .clean .pending 56 .idle).copy.states[(1 : WindowId)] = .pending ∧
      (∀ j : WindowId, j < 1 → (copying .clean .pending 56 .idle).copy.states[j] ≠ .pending) ∧
      (copying (.copying 240) .pending 0 .hostRead).copy.states[(0 : WindowId)] = .copying 240 ∧
      (∀ j : WindowId, (copying (.copying 240) .pending 0 .hostRead).copy.states[j].isCopying = true → j = 0) ∧
      (copying (.copying 240) .pending 0 .hostRead).port.holder ≠ .idle ∧
      (copying (.copying 240) .pending 0 .idle).port.holder = .idle ∧
      hostRequests (copying (.copying 240) .pending 0 .idle) = false := by decide +kernel

theorem meets_burst_ends :
    (bursting 224 false).port.holder = .burst ∧ (bursting 224 false).copy.engine = .reading 0 224 false ∧
      hostRequests (bursting 224 false) = false ∧ (bursting 224 false).applyq.engine = .idle ∧
      (∀ k < 16, (bursting 240 false).mem.fits (240 + k) = true) ∧
      (bursting 224 true).copy.engine = .reading 0 224 true ∧
      (bursting 224 false).copy.states[(0 : WindowId)] = .copying 224 ∧
      (bursting 224 false).journal.entries.length < 64 ∧
      224 + 16 ≠ 256 * (bank[(0 : WindowId)].basePage + bank[(0 : WindowId)].pageCount) ∧
      240 + 16 = 256 * (bank[(0 : WindowId)].basePage + bank[(0 : WindowId)].pageCount) := by decide +kernel

/-- The same burst with window 1 not yet copied, so that no SYNCED append falls due. -/
def burstingOne (c : Nat) : State :=
  let s := bursting c false
  s.setCopy { s.copy with states := s.copy.states.set 1 .pending }

theorem meets_burst_ends_not_due :
    syncedDue ((burstingOne 224).setCopy { (burstingOne 224).copy with
        states := (burstingOne 224).copy.states.set 0 .clean }) = false ∧
      syncedDue ((burstingOne 240).setCopy { (burstingOne 240).copy with
        states := (burstingOne 240).copy.states.set 0 .clean }) = false := by decide +kernel

/-- A burst with a host write waiting behind it. -/
def burstingBefore (plainly : Bool) : State := (bursting 224 false).setHost (requesting plainly)

theorem meets_burst_ends_follows :
    syncedDue ((bursting 240 false).setCopy { (bursting 240 false).copy with
        states := (bursting 240 false).copy.states.set 0 .clean }) = true ∧
      (bursting 240 false).journal.entries.length < 63 ∧
      (bursting 240 false).copy.states[(0 : WindowId)] = .copying 240 := by decide +kernel

theorem meets_burst_ends_waiting :
    (burstingBefore true).host = { state := .request (.write (hostWrite 3)) true true, completion := none } ∧
      (burstingBefore false).host = { state := .request (.write (hostWrite 3)) true false, completion := none } ∧
      (burstingBefore true).port.holder = .burst ∧ (burstingBefore true).copy.engine = .reading 0 224 false ∧
      (burstingBefore true).mem.wf ∧ (burstingBefore true).mem.fits (hostWrite 3).addr.toNat = true := by
  decide +kernel

theorem meets_frames_read_back :
    (Frame.data { seq := 4095#12, content := word 3 }).wellFormed = true ∧
      (Frame.hello (peerHello 0#12 true)).wellFormed = true ∧
      (Frame.link { ack := 0#12, limit := 32#12, nak := true, reject := true }).wellFormed = true := by decide +kernel

/-- A type byte and a body of n bytes with their CRC, less the type byte. -/
def bodyOf (type : Byte) (body : List Byte) : List Byte := (withCrc (type :: body)).drop 1

theorem meets_frames_refused :
    [0x04#8, 0x01#8].length < 3 ∧ 3 ≤ [0x04#8, 0x01#8, 0x00#8].length ∧ crc16 [0x04#8, 0x01#8, 0x00#8] ≠ 0#16 ∧
      (∀ type ∈ [0x00#8, 0x01#8, 0x02#8, 0x03#8, 0x04#8, 0x05#8],
        2 ≤ (bodyOf type []).length ∧ crc16 (type :: bodyOf type []) = 0#16) ∧
      crc16 (0x04#8 :: bodyOf 0x04#8 [0x03#8]) = 0#16 ∧ (bodyOf 0x04#8 [0x03#8]).head? = some 0x03#8 ∧
      (bodyOf 0x03#8 (List.replicate 11 0x00#8)).length = 13 ∧
      (bodyOf 0x03#8 (List.replicate 11 0x00#8))[1]? = some 0x00#8 ∧
      crc16 (0x03#8 :: bodyOf 0x03#8 (List.replicate 11 0x00#8)) = 0#16 ∧
      (bodyOf 0x01#8 [0x00#8, 0x00#8, 0x04#8, 0x00#8, 0x00#8])[2]? = some 0x04#8 ∧
      (bodyOf 0x01#8 [0x00#8, 0x00#8, 0x04#8, 0x00#8, 0x00#8]).length = 7 ∧
      crc16 (0x01#8 :: bodyOf 0x01#8 [0x00#8, 0x00#8, 0x04#8, 0x00#8, 0x00#8]) = 0#16 ∧
      (∀ kind ∈ [0x00#8, 0x02#8, 0x03#8, 0x05#8, 0x06#8],
        crc16 (0x01#8 :: bodyOf 0x01#8 [0x00#8, 0x00#8, kind]) = 0#16 ∧
          (bodyOf 0x01#8 [0x00#8, 0x00#8, kind])[2]? = some kind ∧
          (bodyOf 0x01#8 [0x00#8, 0x00#8, kind]).length = 5) ∧
      checkFrame .detached (Frame.bye .fault).bytes = .good (.bye .fault) := by decide +kernel

theorem meets_characters_read_back : (encodeSymbol .stop).isSome = true ∧ Symbol.stop ≠ .invalid := by decide +kernel

/-- A sound PRIMARY, all of whose conditions hold, with a command in front of its queue. -/
def soundPrimary (c : Instr) : State :=
  { awaitingAck true with pending := [c], tx := (sendingControl (awaitingAck true) (.data 7#12)).tx }

theorem meets_invariants :
    MemoryCanonical (soundPrimary .dataFrameEnd) ∧ EventsSound (soundPrimary .dataFrameEnd) ∧
      ParamsSound (soundPrimary .dataFrameEnd) ∧ BanksSound (soundPrimary .dataFrameEnd) ∧
      RoleSound (soundPrimary .dataFrameEnd) ∧ HoldSound (soundPrimary .dataFrameEnd) ∧
      SessionSound (soundPrimary .dataFrameEnd) ∧ JournalSound (soundPrimary .dataFrameEnd) ∧
      ApplySound (soundPrimary .dataFrameEnd) ∧ CopyMapSound (soundPrimary .dataFrameEnd) ∧
      PortSound (soundPrimary .dataFrameEnd) := by
  and_intros <;> decide +kernel

theorem meets_invariants_step : ∃ t, step (soundPrimary .dataFrameEnd) = .next t := ⟨_, rfl⟩

theorem meets_invariants_holding : HoldSound holding ∧ JournalSound holding ∧ ApplySound applying ∧
  PortSound applying := by
  decide +kernel

end Sys2Proof.Tests
end

section
/-! COPY_ACTIVE_TO_STAGED (R30): its effect with and without a pending commit, and the command that carries it. -/

namespace Sys2Proof.Proofs

open Sys2Proof.Machine

/-! ## The answer of a management command -/

/-- The response to an answer without data is the result byte alone. -/
@[simp] theorem respond_answer (r : Result) (s : State) : respond false (answer r s) = responded r [] s := rfl

/-- A response leaves the window table as the command's effect left it. -/
@[simp] theorem responded_table (r : Result) (data : List Byte) (s : State) :
    (responded r data s).table = s.table := rfl

/-- A response leaves the parameters as the command's effect left them. -/
@[simp] theorem responded_params (r : Result) (data : List Byte) (s : State) :
    (responded r data s).params = s.params := rfl

/-! ## The command and its effect -/

theorem copyActiveToStagedEffect_of_pending (args : List Byte) (s : State) (hp : s.table.commitPending = true) :
    copyActiveToStagedEffect args s = answer .locked s := by
  simp [copyActiveToStagedEffect, hp]

theorem copyActiveToStagedEffect_of_not_pending (args : List Byte) (s : State)
    (hp : s.table.commitPending = false) :
    copyActiveToStagedEffect args s = answer .ok (s.setTable { s.table with staged := s.table.active }) := by
  simp [copyActiveToStagedEffect, hp]

/-- A commanded part answers COPY_ACTIVE_TO_STAGED at once: the command takes no argument bytes (R184, R185). -/
theorem exec_copyActiveToStaged (s : State) (hc : Commanded s) :
    exec .copyActiveToStaged s = .next (respond false (copyActiveToStagedEffect [] s)) := by
  obtain ⟨hrun, hphase⟩ := hc
  calc exec .copyActiveToStaged s
      = working (takeCommand .copyActiveToStaged [] copyActiveToStagedEffect) s := rfl
    _ = .next (takeCommand .copyActiveToStaged [] copyActiveToStagedEffect s) := working_of_running _ s hrun
    _ = .next (respond false (copyActiveToStagedEffect [] s)) :=
        congrArg _ (takeCommand_complete .copyActiveToStaged [] _ s hphase rfl)

/-- While a commit is pending the staged bank is locked (R30, R34). -/
theorem exec_copyActiveToStaged_of_pending (s : State) (hc : Commanded s) (hp : s.table.commitPending = true) :
    exec .copyActiveToStaged s = .next (responded .locked [] s) := by
  rw [exec_copyActiveToStaged s hc, copyActiveToStagedEffect_of_pending [] s hp, respond_answer]

/-- With no commit pending the active bank replaces the staged one; the part's role is not asked for (R30). -/
theorem exec_copyActiveToStaged_of_not_pending (s : State) (hc : Commanded s)
    (hp : s.table.commitPending = false) :
    exec .copyActiveToStaged s =
      .next (responded .ok [] (s.setTable { s.table with staged := s.table.active })) := by
  rw [exec_copyActiveToStaged s hc, copyActiveToStagedEffect_of_not_pending [] s hp, respond_answer]

/-- A copy of a valid active bank is a valid staged bank: the command changes neither MEMPAGES nor the active bank
(R30). -/
theorem staged_valid_after_copyActiveToStaged (s t : State) (hc : Commanded s)
    (hp : s.table.commitPending = false) (hvalid : bankValid s.table.active s.params.memPages = true)
    (hexec : exec .copyActiveToStaged s = .next t) : bankValid t.table.staged t.params.memPages = true := by
  rw [exec_copyActiveToStaged_of_not_pending s hc hp] at hexec
  obtain rfl := Host.Outcome.next.inj hexec
  simpa using hvalid

/-- Settles O13: the two answers are the two cases of a pending commit, and the copy is valid because the active bank
is. -/
theorem copyActiveToStaged : Obligations.CopyActiveToStaged := by
  intro s hc
  refine ⟨exec_copyActiveToStaged_of_pending s hc, exec_copyActiveToStaged_of_not_pending s hc, ?_⟩
  intro t hbanks hexec
  obtain ⟨_, _, hvalid, _⟩ := hbanks
  cases hp : s.table.commitPending with
  | true => exact .inr rfl
  | false => exact .inl (staged_valid_after_copyActiveToStaged s t hc hp hvalid hexec)

end Sys2Proof.Proofs
end

section
/-! SET_ENABLES and ATTN_N (R192), READ_ID (R187), and the HELLO of another link revision (R115, R125). -/

namespace Sys2Proof.Proofs

open Sys2Proof.Machine

/-! ## A management command and a HELLO that are taken at once -/

/-- A commanded part given a command with all its argument bytes takes it as one event and responds (R184, R185). -/
theorem working_takeCommand_of_commanded (cmd : MgmtCommand) (args : List Byte) (effect : List Byte → State → Answer)
    (s : State) (hc : Commanded s) (hlen : args.length = cmd.argCount) :
    working (takeCommand cmd args effect) s = .next (respond (cmd == .softReset) (effect args s)) := by
  obtain ⟨hrun, hphase⟩ := hc
  rw [working_of_running _ s hrun, takeCommand_complete cmd args effect s hphase hlen]

/-- A good HELLO that arrives in SEEK or UP goes to the Session Controller (R103). -/
theorem exec_helloReceived_of_arriving (f : HelloFrame) (s : State) (ha : Arriving s)
    (hwf : (Frame.hello f).wellFormed = true) (hs : dispatching s.session.state = true) :
    exec (.helloReceived f) s = .next (receiveHello f s) := by
  obtain ⟨hrun, hgood, haligned⟩ := ha
  calc exec (.helloReceived f) s
      = dispatchGood (.hello f) (receiveHello f) s := rfl
    _ = working (dispatch (.hello f) (receiveHello f)) s := if_pos hwf
    _ = .next (dispatch (.hello f) (receiveHello f) s) := working_of_running _ s hrun
    _ = .next (receiveHello f s) := congrArg _ (dispatch_empty _ _ s hgood haligned hs)

/-! ## ATTN_N -/

/-- Two words of bits share a set bit exactly when their conjunction is not zero. -/
theorem and_ne_zero_iff_exists_common_bit {w : Nat} (x y : BitVec w) :
    x &&& y ≠ 0#w ↔ ∃ k < w, x.getLsbD k = true ∧ y.getLsbD k = true := by
  rw [ne_eq, BitVec.eq_of_getLsbD_eq_iff]
  simp

/-- While a reset lasts ATTN_N is released (R194). -/
theorem attnDriven_in_reset (s : State) (h : s.inReset = true) : attnDriven s = false := by
  simp [attnDriven, h]

/-- Outside a reset ATTN_N is low exactly while an event has both its flag and its enable set (R192). -/
theorem attnDriven_iff_of_running (s : State) (h : s.inReset = false) :
    attnDriven s = true ↔ ∃ k < 12, s.events.flags.getLsbD k = true ∧ s.events.enables.getLsbD k = true := by
  rw [← and_ne_zero_iff_exists_common_bit]
  simp [attnDriven, h]

/-- With no flag set ATTN_N is released. -/
theorem attnDriven_of_no_flags (s : State) (h : s.events.flags = 0#12) : attnDriven s = false := by
  simp [attnDriven, h]

/-! ## SET_ENABLES -/

theorem exec_setEnables (s : State) (hi lo : Byte) (hc : Commanded s) :
    exec (.setEnables [hi, lo]) s =
      .next (responded .ok [] (s.setEvents { s.events with enables := (hi ++ lo).truncate 12 })) :=
  working_takeCommand_of_commanded .setEnables [hi, lo] setEnablesEffect s hc rfl

/-- Settles O10: the enables are the low 12 bits of the mask, and ATTN_N follows the bits that flags and enables share;
the reset state has no flag set. -/
theorem enablesAndAttention : Obligations.EnablesAndAttention := by
  refine ⟨?setEnables, attnDriven_iff_of_running, attnDriven_in_reset, attnDriven_of_no_flags State.reset rfl⟩
  case setEnables =>
    intro s hi lo hc
    refine ⟨(hi ++ lo).truncate 12, exec_setEnables s hi lo hc, ?_⟩
    intro k hk
    simp [hk]

/-! ## READ_ID and the link revision -/

/-- READ_ID answers with the identification and has no other effect (R187). -/
theorem exec_readId (s : State) (hc : Commanded s) :
    exec .readId s = .next (responded .ok [0x6B#8, 0x31#8, 0x40#8, 0x01#8, 0x01#8] s) :=
  working_takeCommand_of_commanded .readId [] readIdEffect s hc rfl

/-- A part of either role, and a detached one, sends the link revision of its identification (R98). -/
theorem helloFrame_revision (s : State) : (helloFrame s).revision = Config.linkRevision := by
  unfold helloFrame
  split <;> rfl

/-- Entry to FAULT leaves the session in FAULT with the cause it was entered for (R125). -/
theorem enterFault_session_state_and_cause (c : FaultCause) (s : State) :
    (enterFault c s).session.state = .fault ∧ (enterFault c s).session.faultCause = c := by
  simp [enterFault]

/-- The revision is the first thing judged of a HELLO: another one takes the session to FAULT (R115). -/
theorem receiveHello_of_other_revision (f : HelloFrame) (s : State) (h : f.revision ≠ Config.linkRevision) :
    receiveHello f s = enterFault .revision s :=
  if_pos h

theorem dispatching_of_seek_or_up (st : SessionState) (h : st = .seek ∨ st = .up) : dispatching st = true := by
  rcases h with rfl | rfl <;> rfl

/-- Settles O7: the revision READ_ID answers with is the one of `helloFrame`, and the one `receiveHello` compares a
received HELLO's with. -/
theorem readIdAnswers : Obligations.ReadIdAnswers := by
  refine ⟨exec_readId, helloFrame_revision, ?otherRevision⟩
  case otherRevision =>
    intro s f ha hwf hs hrev
    refine ⟨enterFault .revision s, ?_, enterFault_session_state_and_cause .revision s⟩
    rw [exec_helloReceived_of_arriving f s ha hwf (dispatching_of_seek_or_up _ hs),
      receiveHello_of_other_revision f s hrev]

end Sys2Proof.Proofs
end

section
/-! Steps: what it takes for a condition on states to be kept by every step. A condition that does not look at the
Management Port, the queue of commands or the reset mark is kept by every step when the functions behind the commands
keep it, each under the guards its command checks first. -/

namespace Sys2Proof.Proofs

open Sys2Proof.Machine

/-! ## Shells of the commands -/

/-- A working command leaves the state while a reset lasts and has its effect otherwise. -/
theorem working_eq_next (f : State → State) (s t : State) (h : working f s = .next t) :
    (s.inReset = true ∧ t = s) ∨ (s.inReset = false ∧ t = f s) := by
  cases hr : s.inReset with
  | true => exact .inl ⟨rfl, (Host.Outcome.next.inj ((working_in_reset f s hr).symm.trans h)).symm⟩
  | false => exact .inr ⟨rfl, (Host.Outcome.next.inj ((working_of_running f s hr).symm.trans h)).symm⟩

/-- A management command leaves its effect's state, or the state as it was, with another phase of the port. -/
theorem takeCommand_cases (cmd : MgmtCommand) (args : List Byte) (effect : List Byte → State → Answer) (s : State) :
    (∃ m, takeCommand cmd args effect s = s.setMgmt m) ∨
      ∃ bytes m, takeCommand cmd args effect s = (effect bytes s).state.setMgmt m := by
  have feed_cases : ∀ bytes, (∃ m, feedCommand cmd bytes effect s = s.setMgmt m) ∨
      ∃ bytes' m, feedCommand cmd bytes effect s = (effect bytes' s).state.setMgmt m := by
    intro bytes
    unfold feedCommand
    split
    · exact .inl ⟨_, rfl⟩
    · exact .inr ⟨_, _, rfl⟩
  unfold takeCommand
  split
  · exact feed_cases _
  · split
    · exact feed_cases _
    · exact .inl ⟨s.mgmt, rfl⟩
  · exact .inl ⟨s.mgmt, rfl⟩

/-- A frame-level command leaves the state, takes a received frame off the list, or has its block handle the frame in
SEEK or UP, which sees at most that list changed. -/
theorem dispatchGood_cases (f : Frame) (handle : State → State) (s t : State) (h : dispatchGood f handle s = .next t) :
    t = s ∨ (∃ rest, t = s.setRx { s.rx with good := rest }) ∨
      (f.wellFormed = true ∧ dispatching s.session.state = true ∧
        (t = handle s ∨ ∃ rest, t = handle (s.setRx { s.rx with good := rest }))) := by
  unfold dispatchGood at h
  split at h
  · rename_i hwf
    obtain ⟨_, rfl⟩ | ⟨_, rfl⟩ := working_eq_next _ s t h
    · exact .inl rfl
    · unfold dispatch
      split
      · split
        · simp_all
        · exact .inl rfl
      · rename_i g rest _
        split
        · cases hd : dispatching s.session.state with
          | true => exact .inr (.inr ⟨hwf, rfl, .inr ⟨rest, if_pos hd⟩⟩)
          | false => exact .inr (.inl ⟨rest, if_neg (by simpa using hd)⟩)
        · exact .inl rfl
  · cases h

/-- The end of a copy burst frees the port and the engine, and appends the COPY entry while the window still has the
burst's cursor (R167, R168). -/
def burstFreed (cursor : Nat) (s : State) : State :=
  freePort ((s.setMem (s.mem.afterReads (burstAddresses cursor))).setCopy { s.copy with engine := .idle })

theorem endBurst_eq (w : WindowId) (cursor : Nat) (void : Bool) (s : State) :
    endBurst w cursor void s =
      if void = true ∨ s.copy.states[w] ≠ .copying cursor then .next (arbitrate (burstFreed cursor s))
      else if s.journal.freeSlots = 0 then .fault .copyEntryWithoutSlot
      else .next (arbitrate (finishBurst w cursor (burstRun w cursor s.mem) (burstFreed cursor s))) := rfl

theorem endBurst_cases (w : WindowId) (cursor : Nat) (void : Bool) (s t : State)
    (h : endBurst w cursor void s = .next t) :
    t = arbitrate (burstFreed cursor s) ∨
      (s.copy.states[w] = .copying cursor ∧ 0 < s.journal.freeSlots ∧
        t = arbitrate (finishBurst w cursor (burstRun w cursor s.mem) (burstFreed cursor s))) := by
  rw [endBurst_eq] at h
  split at h
  · exact .inl (Host.Outcome.next.inj h).symm
  · rename_i hnot
    obtain ⟨_, hcur⟩ := not_or.mp hnot
    split at h
    · cases h
    · rename_i hslot
      exact .inr ⟨not_not.mp hcur, Nat.pos_of_ne_zero hslot, (Host.Outcome.next.inj h).symm⟩

/-! ## The principle -/

/-- The functions behind the commands keep a condition, each under the guards its command has checked. -/
structure KeptByCommands (P : State → Prop) : Prop where
  setMgmt : ∀ s x, P s → P (s.setMgmt x)
  setPending : ∀ s x, P s → P (s.setPending x)
  setInReset : ∀ s x, P s → P (s.setInReset x)
  setGood : ∀ s rest, P s → P (s.setRx { s.rx with good := rest })
  setAligned : ∀ s, P s → P (s.setRx { s.rx with aligned := true })
  powerReset : ∀ n s, P s → P (powerReset n s)
  softReset : ∀ s, P s → P (softReset s)
  clearEvents : ∀ args s, P s → P (clearEventsEffect args s).state
  setEnables : ∀ args s, P s → P (setEnablesEffect args s).state
  clearCounters : ∀ args s, P s → P (clearCountersEffect args s).state
  writeStagedWindow : ∀ args s, P s → P (writeStagedWindowEffect args s).state
  copyActiveToStaged : ∀ args s, P s → P (copyActiveToStagedEffect args s).state
  commitTable : ∀ args s, P s → P (commitTableEffect args s).state
  setConfig : ∀ args s, P s → P (setConfigEffect args s).state
  setRole : ∀ args s, P s → P (setRoleEffect args s).state
  promote : ∀ args s, P s → P (promoteEffect args s).state
  linkEnable : ∀ args s, P s → P (linkEnableEffect args s).state
  linkDisable : ∀ args s, P s → P (linkDisableEffect args s).state
  startResync : ∀ args s, P s → P (startResyncEffect args s).state
  presentTransaction : ∀ txn s, P s → P (presentTransaction txn s)
  endHostRead : ∀ s, P s → P (endHostRead s)
  endHostWrite : ∀ s, P s → P (endHostWrite s)
  represent : ∀ s, P s → P (arbitrate (represent s))
  endApply : ∀ s, P s → P (endApply s)
  endBurst : ∀ w c v s t, P s → s.port.holder = .burst → s.copy.engine = .reading w c v →
    endBurst w c v s = .next t → P t
  applyTake : ∀ s, P s → P (applyTake s)
  copyPick : ∀ s, P s → P (copyPick s)
  copyRequest : ∀ s, P s → P (copyRequest s)
  offerCommit : ∀ s, P s → P (offerCommit s)
  offerSynced : ∀ s, P s → P (offerSynced s)
  endPromotion : ∀ s, P s → P (endPromotion s)
  sealAge : ∀ s, P s → P (sealAge s)
  stallExpiry : ∀ s, P s → P (stallExpiry s)
  holdExpiry : ∀ s, P s → P (holdExpiry s)
  ackExpiry : ∀ s, P s → P (ackExpiry s)
  silenceExpiry : ∀ s, P s → P (silenceExpiry s)
  helloExpiry : ∀ s, P s → P (helloExpiry s)
  statusExpiry : ∀ s, P s → P (statusExpiry s)
  receiveSymbol : ∀ sym s, P s → P (receiveSymbol sym s)
  receiveHello : ∀ f s, f.role ≠ .detached → dispatching s.session.state = true → P s → P (receiveHello f s)
  receiveBye : ∀ s, dispatching s.session.state = true → P s → P (receiveBye s)
  receiveLink : ∀ f s, P s → P (receiveLink f s)
  receiveData : ∀ f s, f.content.wellFormed = true → P s → P (receiveData f s)
  startFrame : ∀ s, P s → P (startFrame s)
  endDataFrame : ∀ s, P s → P (endDataFrame s)
  endControlFrame : ∀ s, P s → P (endControlFrame s)
  endByeDisabled : ∀ s, P s → P (endByeDisabled s)
  endByeFault : ∀ s, P s → P (endByeFault s)

section
variable {P : State → Prop} {s t : State}

/-- A working command keeps what its function keeps. -/
theorem working_keeps {f : State → State} (hf : P s → P (f s)) (hs : P s) (h : working f s = .next t) : P t := by
  obtain ⟨_, rfl⟩ | ⟨_, rfl⟩ := working_eq_next f s t h
  · exact hs
  · exact hf hs

/-- A management command keeps what its effect keeps. -/
theorem command_keeps (hk : KeptByCommands P) {cmd : MgmtCommand} {args : List Byte}
    {effect : List Byte → State → Answer} (he : ∀ bytes, P s → P (effect bytes s).state) (hs : P s)
    (h : working (takeCommand cmd args effect) s = .next t) : P t := by
  refine working_keeps (fun _ => ?_) hs h
  obtain ⟨m, heq⟩ | ⟨bytes, m, heq⟩ := takeCommand_cases cmd args effect s
  · exact heq ▸ hk.setMgmt s m hs
  · exact heq ▸ hk.setMgmt _ m (he bytes hs)

/-- A frame-level command keeps what the handler of its frame keeps. -/
theorem frame_keeps (hk : KeptByCommands P) {f : Frame} {handle : State → State}
    (hh : ∀ u, f.wellFormed = true → dispatching u.session.state = true → P u → P (handle u)) (hs : P s)
    (h : dispatchGood f handle s = .next t) : P t := by
  obtain rfl | ⟨rest, rfl⟩ | ⟨hwf, hd, rfl | ⟨rest, rfl⟩⟩ := dispatchGood_cases f handle s t h
  · exact hs
  · exact hk.setGood s rest hs
  · exact hh s hwf hd hs
  · exact hh _ hwf hd (hk.setGood s rest hs)

/-- A deselect keeps what a change of the Management Port and the soft reset keep. -/
theorem deselect_keeps (hk : KeptByCommands P) (hs : P s) (h : execDeselect s = .next t) : P t := by
  unfold execDeselect at h
  obtain rfl := Host.Outcome.next.inj h
  split
  · exact hs
  · split
    · exact hk.setMgmt s _ hs
    · unfold deselect
      split
      · exact hk.softReset _ (hk.setMgmt s _ hs)
      · exact hk.setMgmt s _ hs

/-- A burst's completion keeps what its end keeps. -/
theorem burst_keeps (hk : KeptByCommands P) (hs : P s) (h : execCopyBurstCompletion s = .next t) : P t := by
  unfold execCopyBurstCompletion at h
  split at h
  · exact Host.Outcome.next.inj h ▸ hs
  · split at h
    · exact hk.endBurst _ _ _ s t hs ‹_› ‹_› h
    · exact Host.Outcome.next.inj h ▸ hs

/-- Every command keeps what the functions behind the commands keep. -/
theorem exec_keeps (hk : KeptByCommands P) (c : Instr) (hs : P s) (h : exec c s = .next t) : P t := by
  cases c with
  | managementTransaction =>
    obtain rfl := Host.Outcome.next.inj h
    split
    · exact hs
    · split
      · exact hk.setMgmt s _ hs
      · exact hk.setMgmt s _ hs
  | deselect => exact deselect_keeps hk hs h
  | readId => exact command_keeps hk (fun _ => id) hs h
  | readStatus => exact command_keeps hk (fun _ => id) hs h
  | readEvents => exact command_keeps hk (fun _ => id) hs h
  | clearEvents args => exact command_keeps hk (fun b => hk.clearEvents b s) hs h
  | setEnables args => exact command_keeps hk (fun b => hk.setEnables b s) hs h
  | readCounter args => exact command_keeps hk (fun _ _ => by unfold readCounterEffect; split <;> exact hs) hs h
  | clearCounters => exact command_keeps hk (fun b => hk.clearCounters b s) hs h
  | writeStagedWindow args => exact command_keeps hk (fun b => hk.writeStagedWindow b s) hs h
  | readWindow args => exact command_keeps hk (fun _ _ => by unfold readWindowEffect; split <;> exact hs) hs h
  | copyActiveToStaged => exact command_keeps hk (fun b => hk.copyActiveToStaged b s) hs h
  | commitTable => exact command_keeps hk (fun b => hk.commitTable b s) hs h
  | readCopyState args => exact command_keeps hk (fun _ _ => by unfold readCopyStateEffect; split <;> exact hs) hs h
  | setConfig args => exact command_keeps hk (fun b => hk.setConfig b s) hs h
  | readConfig args => exact command_keeps hk (fun _ _ => by unfold readConfigEffect; split <;> exact hs) hs h
  | setRole args => exact command_keeps hk (fun b => hk.setRole b s) hs h
  | promote args => exact command_keeps hk (fun b => hk.promote b s) hs h
  | linkEnable => exact command_keeps hk (fun b => hk.linkEnable b s) hs h
  | linkDisable => exact command_keeps hk (fun b => hk.linkDisable b s) hs h
  | startResync => exact command_keeps hk (fun b => hk.startResync b s) hs h
  | softReset => exact command_keeps hk (fun _ => id) hs h
  | unknownCommand code =>
    have hunknown : execUnknownCommand code s = .next t := h
    unfold execUnknownCommand at hunknown
    split at hunknown
    · cases hunknown
    · refine working_keeps (fun _ => ?_) hs hunknown
      unfold takeUnknown
      split
      · exact hk.setMgmt s _ hs
      · exact hs
  | powerOnReset n => exact Host.Outcome.next.inj h ▸ hk.powerReset n s hs
  | pinReset low n =>
    obtain rfl := Host.Outcome.next.inj h
    split
    · exact hs
    · exact hk.powerReset n s hs
  | resetEnd => exact Host.Outcome.next.inj h ▸ hk.setInReset s false hs
  | hostTransaction txn => exact working_keeps (hk.presentTransaction txn s) hs h
  | hostReadCompletion => exact working_keeps (hk.endHostRead s) hs h
  | hostWriteCompletion => exact working_keeps (hk.endHostWrite s) hs h
  | applyOperationCompletion => exact working_keeps (hk.endApply s) hs h
  | copyBurstCompletion => exact burst_keeps hk hs h
  | applyTake => exact working_keeps (hk.applyTake s) hs h
  | copyPick => exact working_keeps (hk.copyPick s) hs h
  | copyBurstRequest => exact working_keeps (hk.copyRequest s) hs h
  | stalledWriteRepresentation => exact working_keeps (f := fun s => arbitrate (represent s)) (hk.represent s) hs h
  | commitCompletion => exact working_keeps (hk.offerCommit s) hs h
  | syncedAppend => exact working_keeps (hk.offerSynced s) hs h
  | promotionCompletion => exact working_keeps (hk.endPromotion s) hs h
  | sealAgeExpiry => exact working_keeps (hk.sealAge s) hs h
  | stallTimerExpiry => exact working_keeps (hk.stallExpiry s) hs h
  | holdTimerExpiry => exact working_keeps (hk.holdExpiry s) hs h
  | ackTimerExpiry => exact working_keeps (hk.ackExpiry s) hs h
  | silenceTimerExpiry => exact working_keeps (hk.silenceExpiry s) hs h
  | helloTimerExpiry => exact working_keeps (hk.helloExpiry s) hs h
  | statusIntervalExpiry => exact working_keeps (hk.statusExpiry s) hs h
  | symbolReceived c => exact working_keeps (hk.receiveSymbol _ s) hs h
  | helloReceived f =>
    exact frame_keeps hk (fun u hwf hd => hk.receiveHello f u (by simpa [Frame.wellFormed] using hwf) hd) hs h
  | byeReceived r => exact frame_keeps hk (f := .bye r) (fun u _ => hk.receiveBye u) hs h
  | linkReceived f => exact frame_keeps hk (f := .link f) (fun u _ _ => hk.receiveLink f u) hs h
  | dataReceived f => exact frame_keeps hk (f := .data f) (fun u hwf _ => hk.receiveData f u hwf) hs h
  | frameStart => exact working_keeps (hk.startFrame s) hs h
  | dataFrameEnd => exact working_keeps (hk.endDataFrame s) hs h
  | frameEnd => exact working_keeps (hk.endControlFrame s) hs h
  | byeDisabledEnd => exact working_keeps (hk.endByeDisabled s) hs h
  | byeFaultEnd => exact working_keeps (hk.endByeFault s) hs h
  | characterAlignment cause =>
    refine working_keeps (fun _ => ?_) hs h
    split
    · exact hk.setAligned s hs
    · exact hs

/-- Every step keeps what the functions behind the commands keep. -/
theorem step_keeps (hk : KeptByCommands P) (hs : P s) (h : step s = .next t) : P t := by
  cases hq : s.pending with
  | nil => exact Host.Outcome.next.inj ((step_nil s hq).symm.trans h) ▸ hs
  | cons c rest =>
    rw [step_cons s c rest hq] at h
    exact exec_keeps hk c (hk.setPending s rest hs) h

end

/-! ## The arbiter -/

/-- What one decision of the arbiter keeps, the arbiter keeps. -/
theorem arbitrate_keeps {P : State → Prop} (h : ∀ s, P s → P (grantOnce s)) (s : State) (hs : P s) :
    P (arbitrate s) :=
  h _ (h _ (h _ hs))

/-- One decision of the arbiter keeps what the two grants keep. -/
theorem grantOnce_keeps {P : State → Prop} (s : State) (hhost : P s → P (grantHost s))
    (hengine : P s → P (grantEngine s)) (hs : P s) : P (grantOnce s) := by
  unfold grantOnce
  split
  · split
    · split
      · exact hengine hs
      · exact hhost hs
    · split
      · exact hengine hs
      · exact hs
  · exact hs

end Sys2Proof.Proofs
end

section
/-! The frame of every function behind a command: for each field it leaves alone, one equation. The shared operations
have theirs in the frozen text. -/

namespace Sys2Proof.Proofs

open Sys2Proof.Machine

@[simp] theorem answer_state (r : Result) (s : State) : (answer r s).state = s := rfl

@[simp] theorem presentTransaction_frame (txn : HostTxn) (s : State) :
    (presentTransaction txn s).inReset = s.inReset ∧ (presentTransaction txn s).mgmt = s.mgmt ∧
    (presentTransaction txn s).params = s.params ∧ (presentTransaction txn s).table = s.table ∧
    (presentTransaction txn s).part = s.part ∧ (presentTransaction txn s).pending = s.pending := by
  simp only [presentTransaction]; (repeat' split) <;> simp

@[simp] theorem freePort_frame (s : State) :
    (freePort s).inReset = s.inReset ∧ (freePort s).mgmt = s.mgmt ∧ (freePort s).events = s.events ∧
    (freePort s).counters = s.counters ∧ (freePort s).params = s.params ∧ (freePort s).table = s.table ∧
    (freePort s).part = s.part ∧ (freePort s).host = s.host ∧ (freePort s).mem = s.mem ∧
    (freePort s).capture = s.capture ∧ (freePort s).hold = s.hold ∧ (freePort s).journal = s.journal ∧
    (freePort s).copy = s.copy ∧ (freePort s).session = s.session ∧ (freePort s).tx = s.tx ∧ (freePort s).rx = s.rx ∧
    (freePort s).sender = s.sender ∧ (freePort s).acker = s.acker ∧ (freePort s).applyq = s.applyq ∧
    (freePort s).pending = s.pending := by
  simp [freePort]

@[simp] theorem endHostRead_frame (s : State) :
    (endHostRead s).inReset = s.inReset ∧ (endHostRead s).mgmt = s.mgmt ∧ (endHostRead s).params = s.params ∧
    (endHostRead s).table = s.table ∧ (endHostRead s).part = s.part ∧ (endHostRead s).pending = s.pending := by
  simp only [endHostRead]; (repeat' split) <;> simp

@[simp] theorem endHostWrite_frame (s : State) :
    (endHostWrite s).inReset = s.inReset ∧ (endHostWrite s).mgmt = s.mgmt ∧ (endHostWrite s).params = s.params ∧
    (endHostWrite s).table = s.table ∧ (endHostWrite s).part = s.part ∧ (endHostWrite s).pending = s.pending := by
  simp only [endHostWrite]; (repeat' split) <;> simp

@[simp] theorem rejectEntry_frame (s : State) :
    (rejectEntry s).inReset = s.inReset ∧ (rejectEntry s).mgmt = s.mgmt ∧ (rejectEntry s).params = s.params ∧
    (rejectEntry s).table = s.table ∧ (rejectEntry s).part = s.part ∧ (rejectEntry s).host = s.host ∧
    (rejectEntry s).port = s.port ∧ (rejectEntry s).mem = s.mem ∧ (rejectEntry s).capture = s.capture ∧
    (rejectEntry s).hold = s.hold ∧ (rejectEntry s).journal = s.journal ∧ (rejectEntry s).copy = s.copy ∧
    (rejectEntry s).session = s.session ∧ (rejectEntry s).tx = s.tx ∧ (rejectEntry s).rx = s.rx ∧
    (rejectEntry s).sender = s.sender ∧ (rejectEntry s).acker = s.acker ∧ (rejectEntry s).pending = s.pending := by
  simp [rejectEntry]

@[simp] theorem applyTable_frame (records : Bank) (complete : Bool) (s : State) :
    (applyTable records complete s).inReset = s.inReset ∧ (applyTable records complete s).mgmt = s.mgmt ∧
    (applyTable records complete s).events = s.events ∧ (applyTable records complete s).counters = s.counters ∧
    (applyTable records complete s).params = s.params ∧ (applyTable records complete s).part = s.part ∧
    (applyTable records complete s).host = s.host ∧ (applyTable records complete s).port = s.port ∧
    (applyTable records complete s).mem = s.mem ∧ (applyTable records complete s).capture = s.capture ∧
    (applyTable records complete s).hold = s.hold ∧ (applyTable records complete s).journal = s.journal ∧
    (applyTable records complete s).copy = s.copy ∧ (applyTable records complete s).session = s.session ∧
    (applyTable records complete s).tx = s.tx ∧ (applyTable records complete s).rx = s.rx ∧
    (applyTable records complete s).sender = s.sender ∧ (applyTable records complete s).acker = s.acker ∧
    (applyTable records complete s).pending = s.pending := by
  simp [applyTable]

@[simp] theorem applyGeneration_frame (g : Gen) (s : State) :
    (applyGeneration g s).inReset = s.inReset ∧ (applyGeneration g s).mgmt = s.mgmt ∧
    (applyGeneration g s).events = s.events ∧ (applyGeneration g s).counters = s.counters ∧
    (applyGeneration g s).params = s.params ∧ (applyGeneration g s).table = s.table ∧
    (applyGeneration g s).part = s.part ∧ (applyGeneration g s).host = s.host ∧ (applyGeneration g s).port = s.port ∧
    (applyGeneration g s).mem = s.mem ∧ (applyGeneration g s).capture = s.capture ∧
    (applyGeneration g s).hold = s.hold ∧ (applyGeneration g s).journal = s.journal ∧
    (applyGeneration g s).copy = s.copy ∧ (applyGeneration g s).session = s.session ∧
    (applyGeneration g s).tx = s.tx ∧ (applyGeneration g s).rx = s.rx ∧ (applyGeneration g s).sender = s.sender ∧
    (applyGeneration g s).acker = s.acker ∧ (applyGeneration g s).pending = s.pending := by
  simp [applyGeneration]

@[simp] theorem applySynced_frame (g : Gen) (s : State) :
    (applySynced g s).inReset = s.inReset ∧ (applySynced g s).mgmt = s.mgmt ∧
    (applySynced g s).counters = s.counters ∧ (applySynced g s).params = s.params ∧
    (applySynced g s).table = s.table ∧ (applySynced g s).part = s.part ∧ (applySynced g s).host = s.host ∧
    (applySynced g s).port = s.port ∧ (applySynced g s).mem = s.mem ∧ (applySynced g s).capture = s.capture ∧
    (applySynced g s).hold = s.hold ∧ (applySynced g s).journal = s.journal ∧ (applySynced g s).copy = s.copy ∧
    (applySynced g s).session = s.session ∧ (applySynced g s).tx = s.tx ∧ (applySynced g s).rx = s.rx ∧
    (applySynced g s).sender = s.sender ∧ (applySynced g s).acker = s.acker ∧
    (applySynced g s).pending = s.pending := by
  simp only [applySynced]; (repeat' split) <;> simp

@[simp] theorem takeEntry_frame (e : DataFrame) (s : State) :
    (takeEntry e s).inReset = s.inReset ∧ (takeEntry e s).mgmt = s.mgmt ∧ (takeEntry e s).params = s.params ∧
    (takeEntry e s).pending = s.pending := by
  simp only [takeEntry]; (repeat' split) <;> simp

@[simp] theorem applyTake_frame (s : State) :
    (applyTake s).inReset = s.inReset ∧ (applyTake s).mgmt = s.mgmt ∧ (applyTake s).params = s.params ∧
    (applyTake s).pending = s.pending := by
  simp only [applyTake]; (repeat' split) <;> simp

@[simp] theorem endApply_frame (s : State) :
    (endApply s).inReset = s.inReset ∧ (endApply s).mgmt = s.mgmt ∧ (endApply s).params = s.params ∧
    (endApply s).table = s.table ∧ (endApply s).pending = s.pending := by
  simp only [endApply]; (repeat' split) <;> simp

@[simp] theorem copyPick_frame (s : State) :
    (copyPick s).inReset = s.inReset ∧ (copyPick s).mgmt = s.mgmt ∧ (copyPick s).events = s.events ∧
    (copyPick s).counters = s.counters ∧ (copyPick s).params = s.params ∧ (copyPick s).table = s.table ∧
    (copyPick s).part = s.part ∧ (copyPick s).host = s.host ∧ (copyPick s).port = s.port ∧ (copyPick s).mem = s.mem ∧
    (copyPick s).capture = s.capture ∧ (copyPick s).hold = s.hold ∧ (copyPick s).journal = s.journal ∧
    (copyPick s).session = s.session ∧ (copyPick s).tx = s.tx ∧ (copyPick s).rx = s.rx ∧
    (copyPick s).sender = s.sender ∧ (copyPick s).acker = s.acker ∧ (copyPick s).applyq = s.applyq ∧
    (copyPick s).pending = s.pending := by
  simp only [copyPick]; (repeat' split) <;> simp

@[simp] theorem copyRequest_frame (s : State) :
    (copyRequest s).inReset = s.inReset ∧ (copyRequest s).mgmt = s.mgmt ∧ (copyRequest s).params = s.params ∧
    (copyRequest s).table = s.table ∧ (copyRequest s).part = s.part ∧ (copyRequest s).pending = s.pending := by
  simp only [copyRequest]; (repeat' split) <;> simp

@[simp] theorem burstFreed_frame (c : Nat) (s : State) :
    (burstFreed c s).inReset = s.inReset ∧ (burstFreed c s).mgmt = s.mgmt ∧ (burstFreed c s).events = s.events ∧
    (burstFreed c s).counters = s.counters ∧ (burstFreed c s).params = s.params ∧ (burstFreed c s).table = s.table ∧
    (burstFreed c s).part = s.part ∧ (burstFreed c s).host = s.host ∧ (burstFreed c s).capture = s.capture ∧
    (burstFreed c s).hold = s.hold ∧ (burstFreed c s).journal = s.journal ∧ (burstFreed c s).session = s.session ∧
    (burstFreed c s).tx = s.tx ∧ (burstFreed c s).rx = s.rx ∧ (burstFreed c s).sender = s.sender ∧
    (burstFreed c s).acker = s.acker ∧ (burstFreed c s).applyq = s.applyq ∧ (burstFreed c s).pending = s.pending := by
  simp [burstFreed]

@[simp] theorem finishBurst_frame (w : WindowId) (c : Nat) (r : Run) (s : State) :
    (finishBurst w c r s).inReset = s.inReset ∧ (finishBurst w c r s).mgmt = s.mgmt ∧
    (finishBurst w c r s).counters = s.counters ∧ (finishBurst w c r s).params = s.params ∧
    (finishBurst w c r s).table = s.table ∧ (finishBurst w c r s).part = s.part ∧
    (finishBurst w c r s).host = s.host ∧ (finishBurst w c r s).port = s.port ∧ (finishBurst w c r s).mem = s.mem ∧
    (finishBurst w c r s).hold = s.hold ∧ (finishBurst w c r s).session = s.session ∧
    (finishBurst w c r s).tx = s.tx ∧ (finishBurst w c r s).rx = s.rx ∧ (finishBurst w c r s).sender = s.sender ∧
    (finishBurst w c r s).acker = s.acker ∧ (finishBurst w c r s).applyq = s.applyq ∧
    (finishBurst w c r s).pending = s.pending := by
  simp only [finishBurst]; (repeat' split) <;> simp

@[simp] theorem leavePrimary_frame (s : State) :
    (leavePrimary s).inReset = s.inReset ∧ (leavePrimary s).mgmt = s.mgmt ∧ (leavePrimary s).params = s.params ∧
    (leavePrimary s).table = s.table ∧ (leavePrimary s).part = s.part ∧ (leavePrimary s).port = s.port ∧
    (leavePrimary s).mem = s.mem ∧ (leavePrimary s).session = s.session ∧ (leavePrimary s).tx = s.tx ∧
    (leavePrimary s).rx = s.rx ∧ (leavePrimary s).acker = s.acker ∧ (leavePrimary s).applyq = s.applyq ∧
    (leavePrimary s).pending = s.pending := by
  simp [leavePrimary]

@[simp] theorem leaveRole_frame (s : State) :
    (leaveRole s).inReset = s.inReset ∧ (leaveRole s).mgmt = s.mgmt ∧ (leaveRole s).params = s.params ∧
    (leaveRole s).table = s.table ∧ (leaveRole s).part = s.part ∧ (leaveRole s).port = s.port ∧
    (leaveRole s).mem = s.mem ∧ (leaveRole s).session = s.session ∧ (leaveRole s).tx = s.tx ∧
    (leaveRole s).rx = s.rx ∧ (leaveRole s).applyq = s.applyq ∧ (leaveRole s).pending = s.pending := by
  simp only [leaveRole]; (repeat' split) <;> simp

@[simp] theorem arriveSecondary_frame (s : State) :
    (arriveSecondary s).inReset = s.inReset ∧ (arriveSecondary s).mgmt = s.mgmt ∧
    (arriveSecondary s).events = s.events ∧ (arriveSecondary s).counters = s.counters ∧
    (arriveSecondary s).params = s.params ∧ (arriveSecondary s).table = s.table ∧ (arriveSecondary s).part = s.part ∧
    (arriveSecondary s).host = s.host ∧ (arriveSecondary s).port = s.port ∧ (arriveSecondary s).mem = s.mem ∧
    (arriveSecondary s).capture = s.capture ∧ (arriveSecondary s).hold = s.hold ∧
    (arriveSecondary s).journal = s.journal ∧ (arriveSecondary s).copy = s.copy ∧
    (arriveSecondary s).session = s.session ∧ (arriveSecondary s).tx = s.tx ∧ (arriveSecondary s).rx = s.rx ∧
    (arriveSecondary s).sender = s.sender ∧ (arriveSecondary s).pending = s.pending := by
  simp [arriveSecondary]

@[simp] theorem changeRole_frame (r : Role) (s : State) :
    (changeRole r s).inReset = s.inReset ∧ (changeRole r s).mgmt = s.mgmt ∧ (changeRole r s).params = s.params ∧
    (changeRole r s).table = s.table ∧ (changeRole r s).port = s.port ∧ (changeRole r s).mem = s.mem ∧
    (changeRole r s).pending = s.pending := by
  simp only [changeRole]; (repeat' split) <;> simp

@[simp] theorem setFraming_frame (x : Framing) (s : State) :
    (setFraming x s).inReset = s.inReset ∧ (setFraming x s).mgmt = s.mgmt ∧ (setFraming x s).events = s.events ∧
    (setFraming x s).counters = s.counters ∧ (setFraming x s).params = s.params ∧ (setFraming x s).table = s.table ∧
    (setFraming x s).part = s.part ∧ (setFraming x s).host = s.host ∧ (setFraming x s).port = s.port ∧
    (setFraming x s).mem = s.mem ∧ (setFraming x s).capture = s.capture ∧ (setFraming x s).hold = s.hold ∧
    (setFraming x s).journal = s.journal ∧ (setFraming x s).copy = s.copy ∧ (setFraming x s).session = s.session ∧
    (setFraming x s).tx = s.tx ∧ (setFraming x s).sender = s.sender ∧ (setFraming x s).acker = s.acker ∧
    (setFraming x s).applyq = s.applyq ∧ (setFraming x s).pending = s.pending := by
  simp [setFraming]

@[simp] theorem judgeFrame_frame (buffer : List Byte) (s : State) :
    (judgeFrame buffer s).inReset = s.inReset ∧ (judgeFrame buffer s).mgmt = s.mgmt ∧
    (judgeFrame buffer s).events = s.events ∧ (judgeFrame buffer s).params = s.params ∧
    (judgeFrame buffer s).table = s.table ∧ (judgeFrame buffer s).part = s.part ∧
    (judgeFrame buffer s).host = s.host ∧ (judgeFrame buffer s).port = s.port ∧ (judgeFrame buffer s).mem = s.mem ∧
    (judgeFrame buffer s).capture = s.capture ∧ (judgeFrame buffer s).hold = s.hold ∧
    (judgeFrame buffer s).journal = s.journal ∧ (judgeFrame buffer s).copy = s.copy ∧
    (judgeFrame buffer s).session = s.session ∧ (judgeFrame buffer s).tx = s.tx ∧
    (judgeFrame buffer s).sender = s.sender ∧ (judgeFrame buffer s).acker = s.acker ∧
    (judgeFrame buffer s).applyq = s.applyq ∧ (judgeFrame buffer s).pending = s.pending := by
  simp only [judgeFrame]; (repeat' split) <;> simp

@[simp] theorem frameSymbol_frame (sym : Symbol) (s : State) :
    (frameSymbol sym s).inReset = s.inReset ∧ (frameSymbol sym s).mgmt = s.mgmt ∧
    (frameSymbol sym s).events = s.events ∧ (frameSymbol sym s).params = s.params ∧
    (frameSymbol sym s).table = s.table ∧ (frameSymbol sym s).part = s.part ∧ (frameSymbol sym s).host = s.host ∧
    (frameSymbol sym s).port = s.port ∧ (frameSymbol sym s).mem = s.mem ∧ (frameSymbol sym s).capture = s.capture ∧
    (frameSymbol sym s).hold = s.hold ∧ (frameSymbol sym s).journal = s.journal ∧ (frameSymbol sym s).copy = s.copy ∧
    (frameSymbol sym s).session = s.session ∧ (frameSymbol sym s).tx = s.tx ∧ (frameSymbol sym s).sender = s.sender ∧
    (frameSymbol sym s).acker = s.acker ∧ (frameSymbol sym s).applyq = s.applyq ∧
    (frameSymbol sym s).pending = s.pending := by
  simp only [frameSymbol]; (repeat' split) <;> simp

@[simp] theorem restartSilence_frame (s : State) :
    (restartSilence s).inReset = s.inReset ∧ (restartSilence s).mgmt = s.mgmt ∧ (restartSilence s).events = s.events ∧
    (restartSilence s).counters = s.counters ∧ (restartSilence s).params = s.params ∧
    (restartSilence s).table = s.table ∧ (restartSilence s).part = s.part ∧ (restartSilence s).host = s.host ∧
    (restartSilence s).port = s.port ∧ (restartSilence s).mem = s.mem ∧ (restartSilence s).capture = s.capture ∧
    (restartSilence s).hold = s.hold ∧ (restartSilence s).journal = s.journal ∧ (restartSilence s).copy = s.copy ∧
    (restartSilence s).session = s.session ∧ (restartSilence s).tx = s.tx ∧ (restartSilence s).sender = s.sender ∧
    (restartSilence s).acker = s.acker ∧ (restartSilence s).applyq = s.applyq ∧
    (restartSilence s).pending = s.pending := by
  simp only [restartSilence]; (repeat' split) <;> simp

@[simp] theorem receiveSymbol_frame (sym : Symbol) (s : State) :
    (receiveSymbol sym s).inReset = s.inReset ∧ (receiveSymbol sym s).mgmt = s.mgmt ∧
    (receiveSymbol sym s).events = s.events ∧ (receiveSymbol sym s).params = s.params ∧
    (receiveSymbol sym s).table = s.table ∧ (receiveSymbol sym s).part = s.part ∧
    (receiveSymbol sym s).host = s.host ∧ (receiveSymbol sym s).port = s.port ∧ (receiveSymbol sym s).mem = s.mem ∧
    (receiveSymbol sym s).capture = s.capture ∧ (receiveSymbol sym s).hold = s.hold ∧
    (receiveSymbol sym s).journal = s.journal ∧ (receiveSymbol sym s).copy = s.copy ∧
    (receiveSymbol sym s).session = s.session ∧ (receiveSymbol sym s).tx = s.tx ∧
    (receiveSymbol sym s).sender = s.sender ∧ (receiveSymbol sym s).acker = s.acker ∧
    (receiveSymbol sym s).applyq = s.applyq ∧ (receiveSymbol sym s).pending = s.pending := by
  simp only [receiveSymbol]; (repeat' split) <;> simp

@[simp] theorem adopt_frame (f : HelloFrame) (s : State) :
    (adopt f s).inReset = s.inReset ∧ (adopt f s).mgmt = s.mgmt ∧ (adopt f s).events = s.events ∧
    (adopt f s).counters = s.counters ∧ (adopt f s).params = s.params ∧ (adopt f s).table = s.table ∧
    (adopt f s).part = s.part ∧ (adopt f s).host = s.host ∧ (adopt f s).port = s.port ∧ (adopt f s).mem = s.mem ∧
    (adopt f s).capture = s.capture ∧ (adopt f s).hold = s.hold ∧ (adopt f s).journal = s.journal ∧
    (adopt f s).copy = s.copy ∧ (adopt f s).session = s.session ∧ (adopt f s).tx = s.tx ∧ (adopt f s).rx = s.rx ∧
    (adopt f s).sender = s.sender ∧ (adopt f s).pending = s.pending := by
  simp [adopt]

@[simp] theorem place_frame (e : Seq) (s : State) :
    (place e s).inReset = s.inReset ∧ (place e s).mgmt = s.mgmt ∧ (place e s).events = s.events ∧
    (place e s).counters = s.counters ∧ (place e s).params = s.params ∧ (place e s).table = s.table ∧
    (place e s).part = s.part ∧ (place e s).port = s.port ∧ (place e s).mem = s.mem ∧ (place e s).copy = s.copy ∧
    (place e s).tx = s.tx ∧ (place e s).rx = s.rx ∧ (place e s).acker = s.acker ∧ (place e s).applyq = s.applyq ∧
    (place e s).pending = s.pending := by
  simp [place]

@[simp] theorem enterUpPrimary_frame (f : HelloFrame) (s : State) :
    (enterUpPrimary f s).inReset = s.inReset ∧ (enterUpPrimary f s).mgmt = s.mgmt ∧
    (enterUpPrimary f s).events = s.events ∧ (enterUpPrimary f s).counters = s.counters ∧
    (enterUpPrimary f s).params = s.params ∧ (enterUpPrimary f s).table = s.table ∧
    (enterUpPrimary f s).part = s.part ∧ (enterUpPrimary f s).port = s.port ∧ (enterUpPrimary f s).mem = s.mem ∧
    (enterUpPrimary f s).copy = s.copy ∧ (enterUpPrimary f s).tx = s.tx ∧ (enterUpPrimary f s).rx = s.rx ∧
    (enterUpPrimary f s).acker = s.acker ∧ (enterUpPrimary f s).applyq = s.applyq ∧
    (enterUpPrimary f s).pending = s.pending := by
  simp [enterUpPrimary]

@[simp] theorem enterUpSecondary_frame (s : State) :
    (enterUpSecondary s).inReset = s.inReset ∧ (enterUpSecondary s).mgmt = s.mgmt ∧
    (enterUpSecondary s).events = s.events ∧ (enterUpSecondary s).counters = s.counters ∧
    (enterUpSecondary s).params = s.params ∧ (enterUpSecondary s).table = s.table ∧
    (enterUpSecondary s).part = s.part ∧ (enterUpSecondary s).host = s.host ∧ (enterUpSecondary s).port = s.port ∧
    (enterUpSecondary s).mem = s.mem ∧ (enterUpSecondary s).capture = s.capture ∧ (enterUpSecondary s).hold = s.hold ∧
    (enterUpSecondary s).journal = s.journal ∧ (enterUpSecondary s).copy = s.copy ∧
    (enterUpSecondary s).session = s.session ∧ (enterUpSecondary s).tx = s.tx ∧ (enterUpSecondary s).rx = s.rx ∧
    (enterUpSecondary s).sender = s.sender ∧ (enterUpSecondary s).applyq = s.applyq ∧
    (enterUpSecondary s).pending = s.pending := by
  simp [enterUpSecondary]

@[simp] theorem enterUp_frame (f : HelloFrame) (s : State) :
    (enterUp f s).inReset = s.inReset ∧ (enterUp f s).mgmt = s.mgmt ∧ (enterUp f s).counters = s.counters ∧
    (enterUp f s).params = s.params ∧ (enterUp f s).table = s.table ∧ (enterUp f s).part = s.part ∧
    (enterUp f s).port = s.port ∧ (enterUp f s).mem = s.mem ∧ (enterUp f s).copy = s.copy ∧ (enterUp f s).tx = s.tx ∧
    (enterUp f s).applyq = s.applyq ∧ (enterUp f s).pending = s.pending := by
  simp only [enterUp]; (repeat' split) <;> simp

@[simp] theorem acceptHello_frame (f : HelloFrame) (s : State) :
    (acceptHello f s).inReset = s.inReset ∧ (acceptHello f s).mgmt = s.mgmt ∧
    (acceptHello f s).counters = s.counters ∧ (acceptHello f s).params = s.params ∧
    (acceptHello f s).table = s.table ∧ (acceptHello f s).part = s.part ∧ (acceptHello f s).port = s.port ∧
    (acceptHello f s).mem = s.mem ∧ (acceptHello f s).copy = s.copy ∧ (acceptHello f s).applyq = s.applyq ∧
    (acceptHello f s).pending = s.pending := by
  simp only [acceptHello]; (repeat' split) <;> simp

@[simp] theorem judgeHello_frame (f : HelloFrame) (s : State) :
    (judgeHello f s).inReset = s.inReset ∧ (judgeHello f s).mgmt = s.mgmt ∧ (judgeHello f s).params = s.params ∧
    (judgeHello f s).table = s.table ∧ (judgeHello f s).part = s.part ∧ (judgeHello f s).port = s.port ∧
    (judgeHello f s).mem = s.mem ∧ (judgeHello f s).pending = s.pending := by
  simp only [judgeHello]; (repeat' split) <;> simp

@[simp] theorem answerHello_frame (s : State) :
    (answerHello s).inReset = s.inReset ∧ (answerHello s).mgmt = s.mgmt ∧ (answerHello s).events = s.events ∧
    (answerHello s).counters = s.counters ∧ (answerHello s).params = s.params ∧ (answerHello s).table = s.table ∧
    (answerHello s).part = s.part ∧ (answerHello s).host = s.host ∧ (answerHello s).port = s.port ∧
    (answerHello s).mem = s.mem ∧ (answerHello s).capture = s.capture ∧ (answerHello s).hold = s.hold ∧
    (answerHello s).journal = s.journal ∧ (answerHello s).copy = s.copy ∧ (answerHello s).rx = s.rx ∧
    (answerHello s).sender = s.sender ∧ (answerHello s).acker = s.acker ∧ (answerHello s).applyq = s.applyq ∧
    (answerHello s).pending = s.pending := by
  simp only [answerHello]; (repeat' split) <;> simp

@[simp] theorem receiveHello_frame (f : HelloFrame) (s : State) :
    (receiveHello f s).inReset = s.inReset ∧ (receiveHello f s).mgmt = s.mgmt ∧ (receiveHello f s).params = s.params ∧
    (receiveHello f s).table = s.table ∧ (receiveHello f s).part = s.part ∧ (receiveHello f s).port = s.port ∧
    (receiveHello f s).mem = s.mem ∧ (receiveHello f s).pending = s.pending := by
  simp only [receiveHello]; (repeat' split) <;> simp

@[simp] theorem receiveBye_frame (s : State) :
    (receiveBye s).inReset = s.inReset ∧ (receiveBye s).mgmt = s.mgmt ∧ (receiveBye s).params = s.params ∧
    (receiveBye s).table = s.table ∧ (receiveBye s).part = s.part ∧ (receiveBye s).host = s.host ∧
    (receiveBye s).port = s.port ∧ (receiveBye s).mem = s.mem ∧ (receiveBye s).capture = s.capture ∧
    (receiveBye s).hold = s.hold ∧ (receiveBye s).applyq = s.applyq ∧ (receiveBye s).pending = s.pending := by
  simp only [receiveBye]; (repeat' split) <;> simp

@[simp] theorem peerReject_frame (s : State) :
    (peerReject s).inReset = s.inReset ∧ (peerReject s).mgmt = s.mgmt ∧ (peerReject s).params = s.params ∧
    (peerReject s).table = s.table ∧ (peerReject s).part = s.part ∧ (peerReject s).port = s.port ∧
    (peerReject s).mem = s.mem ∧ (peerReject s).applyq = s.applyq ∧ (peerReject s).pending = s.pending := by
  simp only [peerReject]; (repeat' split) <;> simp

@[simp] theorem takeLink_frame (f : LinkFrame) (s : State) :
    (takeLink f s).inReset = s.inReset ∧ (takeLink f s).mgmt = s.mgmt ∧ (takeLink f s).events = s.events ∧
    (takeLink f s).params = s.params ∧ (takeLink f s).table = s.table ∧ (takeLink f s).part = s.part ∧
    (takeLink f s).port = s.port ∧ (takeLink f s).mem = s.mem ∧ (takeLink f s).copy = s.copy ∧
    (takeLink f s).tx = s.tx ∧ (takeLink f s).rx = s.rx ∧ (takeLink f s).acker = s.acker ∧
    (takeLink f s).applyq = s.applyq ∧ (takeLink f s).pending = s.pending := by
  simp only [takeLink]; (repeat' split) <;> simp

@[simp] theorem receiveLink_frame (f : LinkFrame) (s : State) :
    (receiveLink f s).inReset = s.inReset ∧ (receiveLink f s).mgmt = s.mgmt ∧ (receiveLink f s).params = s.params ∧
    (receiveLink f s).table = s.table ∧ (receiveLink f s).part = s.part ∧ (receiveLink f s).port = s.port ∧
    (receiveLink f s).mem = s.mem ∧ (receiveLink f s).applyq = s.applyq ∧ (receiveLink f s).pending = s.pending := by
  simp only [receiveLink]; (repeat' split) <;> simp

@[simp] theorem acceptData_frame (f : DataFrame) (s : State) :
    (acceptData f s).inReset = s.inReset ∧ (acceptData f s).mgmt = s.mgmt ∧ (acceptData f s).events = s.events ∧
    (acceptData f s).counters = s.counters ∧ (acceptData f s).params = s.params ∧ (acceptData f s).table = s.table ∧
    (acceptData f s).part = s.part ∧ (acceptData f s).host = s.host ∧ (acceptData f s).port = s.port ∧
    (acceptData f s).mem = s.mem ∧ (acceptData f s).capture = s.capture ∧ (acceptData f s).hold = s.hold ∧
    (acceptData f s).journal = s.journal ∧ (acceptData f s).copy = s.copy ∧ (acceptData f s).session = s.session ∧
    (acceptData f s).tx = s.tx ∧ (acceptData f s).rx = s.rx ∧ (acceptData f s).sender = s.sender ∧
    (acceptData f s).pending = s.pending := by
  simp [acceptData]

@[simp] theorem askNak_frame (s : State) :
    (askNak s).inReset = s.inReset ∧ (askNak s).mgmt = s.mgmt ∧ (askNak s).events = s.events ∧
    (askNak s).params = s.params ∧ (askNak s).table = s.table ∧ (askNak s).part = s.part ∧ (askNak s).host = s.host ∧
    (askNak s).port = s.port ∧ (askNak s).mem = s.mem ∧ (askNak s).capture = s.capture ∧ (askNak s).hold = s.hold ∧
    (askNak s).journal = s.journal ∧ (askNak s).copy = s.copy ∧ (askNak s).session = s.session ∧
    (askNak s).tx = s.tx ∧ (askNak s).rx = s.rx ∧ (askNak s).sender = s.sender ∧ (askNak s).applyq = s.applyq ∧
    (askNak s).pending = s.pending := by
  simp only [askNak]; (repeat' split) <;> simp

@[simp] theorem receiveData_frame (f : DataFrame) (s : State) :
    (receiveData f s).inReset = s.inReset ∧ (receiveData f s).mgmt = s.mgmt ∧ (receiveData f s).events = s.events ∧
    (receiveData f s).params = s.params ∧ (receiveData f s).table = s.table ∧ (receiveData f s).part = s.part ∧
    (receiveData f s).host = s.host ∧ (receiveData f s).port = s.port ∧ (receiveData f s).mem = s.mem ∧
    (receiveData f s).capture = s.capture ∧ (receiveData f s).hold = s.hold ∧ (receiveData f s).journal = s.journal ∧
    (receiveData f s).copy = s.copy ∧ (receiveData f s).session = s.session ∧ (receiveData f s).tx = s.tx ∧
    (receiveData f s).rx = s.rx ∧ (receiveData f s).sender = s.sender ∧ (receiveData f s).pending = s.pending := by
  simp only [receiveData]; (repeat' split) <;> simp

@[simp] theorem softResetHost_frame (s : State) :
    (softResetHost s).inReset = s.inReset ∧ (softResetHost s).mgmt = s.mgmt ∧ (softResetHost s).events = s.events ∧
    (softResetHost s).counters = s.counters ∧ (softResetHost s).params = s.params ∧
    (softResetHost s).table = s.table ∧ (softResetHost s).part = s.part ∧ (softResetHost s).port = s.port ∧
    (softResetHost s).mem = s.mem ∧ (softResetHost s).capture = s.capture ∧ (softResetHost s).hold = s.hold ∧
    (softResetHost s).journal = s.journal ∧ (softResetHost s).copy = s.copy ∧ (softResetHost s).session = s.session ∧
    (softResetHost s).tx = s.tx ∧ (softResetHost s).rx = s.rx ∧ (softResetHost s).sender = s.sender ∧
    (softResetHost s).acker = s.acker ∧ (softResetHost s).applyq = s.applyq ∧
    (softResetHost s).pending = s.pending := by
  simp only [softResetHost]; (repeat' split) <;> simp

@[simp] theorem softResetCopy_frame (s : State) :
    (softResetCopy s).inReset = s.inReset ∧ (softResetCopy s).mgmt = s.mgmt ∧ (softResetCopy s).events = s.events ∧
    (softResetCopy s).counters = s.counters ∧ (softResetCopy s).params = s.params ∧
    (softResetCopy s).table = s.table ∧ (softResetCopy s).part = s.part ∧ (softResetCopy s).host = s.host ∧
    (softResetCopy s).port = s.port ∧ (softResetCopy s).mem = s.mem ∧ (softResetCopy s).capture = s.capture ∧
    (softResetCopy s).hold = s.hold ∧ (softResetCopy s).journal = s.journal ∧ (softResetCopy s).session = s.session ∧
    (softResetCopy s).tx = s.tx ∧ (softResetCopy s).rx = s.rx ∧ (softResetCopy s).sender = s.sender ∧
    (softResetCopy s).acker = s.acker ∧ (softResetCopy s).applyq = s.applyq ∧
    (softResetCopy s).pending = s.pending := by
  simp only [softResetCopy]; (repeat' split) <;> simp

@[simp] theorem softReset_frame (s : State) :
    (softReset s).inReset = s.inReset ∧ (softReset s).mgmt = s.mgmt ∧ (softReset s).params = s.params ∧
    (softReset s).pending = s.pending := by
  simp [softReset]

@[simp] theorem sealAge_frame (s : State) :
    (sealAge s).inReset = s.inReset ∧ (sealAge s).mgmt = s.mgmt ∧ (sealAge s).events = s.events ∧
    (sealAge s).counters = s.counters ∧ (sealAge s).params = s.params ∧ (sealAge s).table = s.table ∧
    (sealAge s).part = s.part ∧ (sealAge s).host = s.host ∧ (sealAge s).port = s.port ∧ (sealAge s).mem = s.mem ∧
    (sealAge s).hold = s.hold ∧ (sealAge s).copy = s.copy ∧ (sealAge s).session = s.session ∧ (sealAge s).tx = s.tx ∧
    (sealAge s).rx = s.rx ∧ (sealAge s).sender = s.sender ∧ (sealAge s).acker = s.acker ∧
    (sealAge s).applyq = s.applyq ∧ (sealAge s).pending = s.pending := by
  simp only [sealAge]; (repeat' split) <;> simp

@[simp] theorem stallExpiry_frame (s : State) :
    (stallExpiry s).inReset = s.inReset ∧ (stallExpiry s).mgmt = s.mgmt ∧ (stallExpiry s).params = s.params ∧
    (stallExpiry s).table = s.table ∧ (stallExpiry s).part = s.part ∧ (stallExpiry s).port = s.port ∧
    (stallExpiry s).mem = s.mem ∧ (stallExpiry s).applyq = s.applyq ∧ (stallExpiry s).pending = s.pending := by
  simp only [stallExpiry]; (repeat' split) <;> simp

@[simp] theorem holdExpiry_frame (s : State) :
    (holdExpiry s).inReset = s.inReset ∧ (holdExpiry s).mgmt = s.mgmt ∧ (holdExpiry s).params = s.params ∧
    (holdExpiry s).table = s.table ∧ (holdExpiry s).part = s.part ∧ (holdExpiry s).port = s.port ∧
    (holdExpiry s).mem = s.mem ∧ (holdExpiry s).capture = s.capture ∧ (holdExpiry s).copy = s.copy ∧
    (holdExpiry s).session = s.session ∧ (holdExpiry s).tx = s.tx ∧ (holdExpiry s).rx = s.rx ∧
    (holdExpiry s).sender = s.sender ∧ (holdExpiry s).acker = s.acker ∧ (holdExpiry s).applyq = s.applyq ∧
    (holdExpiry s).pending = s.pending := by
  simp only [holdExpiry]; (repeat' split) <;> simp

@[simp] theorem ackExpiry_frame (s : State) :
    (ackExpiry s).inReset = s.inReset ∧ (ackExpiry s).mgmt = s.mgmt ∧ (ackExpiry s).params = s.params ∧
    (ackExpiry s).table = s.table ∧ (ackExpiry s).part = s.part ∧ (ackExpiry s).host = s.host ∧
    (ackExpiry s).port = s.port ∧ (ackExpiry s).mem = s.mem ∧ (ackExpiry s).capture = s.capture ∧
    (ackExpiry s).hold = s.hold ∧ (ackExpiry s).applyq = s.applyq ∧ (ackExpiry s).pending = s.pending := by
  simp only [ackExpiry]; (repeat' split) <;> simp

@[simp] theorem silenceExpiry_frame (s : State) :
    (silenceExpiry s).inReset = s.inReset ∧ (silenceExpiry s).mgmt = s.mgmt ∧ (silenceExpiry s).params = s.params ∧
    (silenceExpiry s).table = s.table ∧ (silenceExpiry s).part = s.part ∧ (silenceExpiry s).host = s.host ∧
    (silenceExpiry s).port = s.port ∧ (silenceExpiry s).mem = s.mem ∧ (silenceExpiry s).capture = s.capture ∧
    (silenceExpiry s).hold = s.hold ∧ (silenceExpiry s).applyq = s.applyq ∧
    (silenceExpiry s).pending = s.pending := by
  simp only [silenceExpiry]; (repeat' split) <;> simp

@[simp] theorem helloExpiry_frame (s : State) :
    (helloExpiry s).inReset = s.inReset ∧ (helloExpiry s).mgmt = s.mgmt ∧ (helloExpiry s).events = s.events ∧
    (helloExpiry s).counters = s.counters ∧ (helloExpiry s).params = s.params ∧ (helloExpiry s).table = s.table ∧
    (helloExpiry s).part = s.part ∧ (helloExpiry s).host = s.host ∧ (helloExpiry s).port = s.port ∧
    (helloExpiry s).mem = s.mem ∧ (helloExpiry s).capture = s.capture ∧ (helloExpiry s).hold = s.hold ∧
    (helloExpiry s).journal = s.journal ∧ (helloExpiry s).copy = s.copy ∧ (helloExpiry s).rx = s.rx ∧
    (helloExpiry s).sender = s.sender ∧ (helloExpiry s).acker = s.acker ∧ (helloExpiry s).applyq = s.applyq ∧
    (helloExpiry s).pending = s.pending := by
  simp only [helloExpiry]; (repeat' split) <;> simp

@[simp] theorem statusExpiry_frame (s : State) :
    (statusExpiry s).inReset = s.inReset ∧ (statusExpiry s).mgmt = s.mgmt ∧ (statusExpiry s).events = s.events ∧
    (statusExpiry s).counters = s.counters ∧ (statusExpiry s).params = s.params ∧ (statusExpiry s).table = s.table ∧
    (statusExpiry s).part = s.part ∧ (statusExpiry s).host = s.host ∧ (statusExpiry s).port = s.port ∧
    (statusExpiry s).mem = s.mem ∧ (statusExpiry s).capture = s.capture ∧ (statusExpiry s).hold = s.hold ∧
    (statusExpiry s).journal = s.journal ∧ (statusExpiry s).copy = s.copy ∧ (statusExpiry s).session = s.session ∧
    (statusExpiry s).tx = s.tx ∧ (statusExpiry s).rx = s.rx ∧ (statusExpiry s).sender = s.sender ∧
    (statusExpiry s).applyq = s.applyq ∧ (statusExpiry s).pending = s.pending := by
  simp only [statusExpiry]; (repeat' split) <;> simp

@[simp] theorem clearDue_frame (k : TxKind) (s : State) :
    (clearDue k s).inReset = s.inReset ∧ (clearDue k s).mgmt = s.mgmt ∧ (clearDue k s).events = s.events ∧
    (clearDue k s).counters = s.counters ∧ (clearDue k s).params = s.params ∧ (clearDue k s).table = s.table ∧
    (clearDue k s).part = s.part ∧ (clearDue k s).host = s.host ∧ (clearDue k s).port = s.port ∧
    (clearDue k s).mem = s.mem ∧ (clearDue k s).capture = s.capture ∧ (clearDue k s).hold = s.hold ∧
    (clearDue k s).journal = s.journal ∧ (clearDue k s).copy = s.copy ∧ (clearDue k s).session = s.session ∧
    (clearDue k s).rx = s.rx ∧ (clearDue k s).sender = s.sender ∧ (clearDue k s).applyq = s.applyq ∧
    (clearDue k s).pending = s.pending := by
  simp only [clearDue]; (repeat' split) <;> simp

@[simp] theorem startFrame_frame (s : State) :
    (startFrame s).inReset = s.inReset ∧ (startFrame s).mgmt = s.mgmt ∧ (startFrame s).events = s.events ∧
    (startFrame s).counters = s.counters ∧ (startFrame s).params = s.params ∧ (startFrame s).table = s.table ∧
    (startFrame s).part = s.part ∧ (startFrame s).host = s.host ∧ (startFrame s).port = s.port ∧
    (startFrame s).mem = s.mem ∧ (startFrame s).capture = s.capture ∧ (startFrame s).hold = s.hold ∧
    (startFrame s).journal = s.journal ∧ (startFrame s).copy = s.copy ∧ (startFrame s).session = s.session ∧
    (startFrame s).rx = s.rx ∧ (startFrame s).sender = s.sender ∧ (startFrame s).applyq = s.applyq ∧
    (startFrame s).pending = s.pending := by
  simp only [startFrame]; (repeat' split) <;> simp

@[simp] theorem endFrame_frame (s : State) :
    (endFrame s).inReset = s.inReset ∧ (endFrame s).mgmt = s.mgmt ∧ (endFrame s).events = s.events ∧
    (endFrame s).counters = s.counters ∧ (endFrame s).params = s.params ∧ (endFrame s).table = s.table ∧
    (endFrame s).part = s.part ∧ (endFrame s).host = s.host ∧ (endFrame s).port = s.port ∧ (endFrame s).mem = s.mem ∧
    (endFrame s).capture = s.capture ∧ (endFrame s).hold = s.hold ∧ (endFrame s).journal = s.journal ∧
    (endFrame s).copy = s.copy ∧ (endFrame s).session = s.session ∧ (endFrame s).rx = s.rx ∧
    (endFrame s).sender = s.sender ∧ (endFrame s).acker = s.acker ∧ (endFrame s).applyq = s.applyq ∧
    (endFrame s).pending = s.pending := by
  simp [endFrame]

@[simp] theorem endDataFrame_frame (s : State) :
    (endDataFrame s).inReset = s.inReset ∧ (endDataFrame s).mgmt = s.mgmt ∧ (endDataFrame s).events = s.events ∧
    (endDataFrame s).counters = s.counters ∧ (endDataFrame s).params = s.params ∧ (endDataFrame s).table = s.table ∧
    (endDataFrame s).part = s.part ∧ (endDataFrame s).host = s.host ∧ (endDataFrame s).port = s.port ∧
    (endDataFrame s).mem = s.mem ∧ (endDataFrame s).capture = s.capture ∧ (endDataFrame s).hold = s.hold ∧
    (endDataFrame s).copy = s.copy ∧ (endDataFrame s).session = s.session ∧ (endDataFrame s).rx = s.rx ∧
    (endDataFrame s).acker = s.acker ∧ (endDataFrame s).applyq = s.applyq ∧ (endDataFrame s).pending = s.pending := by
  simp only [endDataFrame]; (repeat' split) <;> simp

@[simp] theorem endControlFrame_frame (s : State) :
    (endControlFrame s).inReset = s.inReset ∧ (endControlFrame s).mgmt = s.mgmt ∧
    (endControlFrame s).events = s.events ∧ (endControlFrame s).counters = s.counters ∧
    (endControlFrame s).params = s.params ∧ (endControlFrame s).table = s.table ∧ (endControlFrame s).part = s.part ∧
    (endControlFrame s).host = s.host ∧ (endControlFrame s).port = s.port ∧ (endControlFrame s).mem = s.mem ∧
    (endControlFrame s).capture = s.capture ∧ (endControlFrame s).hold = s.hold ∧
    (endControlFrame s).journal = s.journal ∧ (endControlFrame s).copy = s.copy ∧
    (endControlFrame s).session = s.session ∧ (endControlFrame s).rx = s.rx ∧ (endControlFrame s).sender = s.sender ∧
    (endControlFrame s).acker = s.acker ∧ (endControlFrame s).applyq = s.applyq ∧
    (endControlFrame s).pending = s.pending := by
  simp only [endControlFrame]; (repeat' split) <;> simp

@[simp] theorem endByeDisabled_frame (s : State) :
    (endByeDisabled s).inReset = s.inReset ∧ (endByeDisabled s).mgmt = s.mgmt ∧ (endByeDisabled s).events = s.events ∧
    (endByeDisabled s).counters = s.counters ∧ (endByeDisabled s).params = s.params ∧
    (endByeDisabled s).table = s.table ∧ (endByeDisabled s).part = s.part ∧ (endByeDisabled s).host = s.host ∧
    (endByeDisabled s).port = s.port ∧ (endByeDisabled s).mem = s.mem ∧ (endByeDisabled s).capture = s.capture ∧
    (endByeDisabled s).hold = s.hold ∧ (endByeDisabled s).copy = s.copy ∧ (endByeDisabled s).sender = s.sender ∧
    (endByeDisabled s).acker = s.acker ∧ (endByeDisabled s).applyq = s.applyq ∧
    (endByeDisabled s).pending = s.pending := by
  simp only [endByeDisabled]; (repeat' split) <;> simp

@[simp] theorem endByeFault_frame (s : State) :
    (endByeFault s).inReset = s.inReset ∧ (endByeFault s).mgmt = s.mgmt ∧ (endByeFault s).events = s.events ∧
    (endByeFault s).counters = s.counters ∧ (endByeFault s).params = s.params ∧ (endByeFault s).table = s.table ∧
    (endByeFault s).part = s.part ∧ (endByeFault s).host = s.host ∧ (endByeFault s).port = s.port ∧
    (endByeFault s).mem = s.mem ∧ (endByeFault s).capture = s.capture ∧ (endByeFault s).hold = s.hold ∧
    (endByeFault s).journal = s.journal ∧ (endByeFault s).copy = s.copy ∧ (endByeFault s).session = s.session ∧
    (endByeFault s).rx = s.rx ∧ (endByeFault s).sender = s.sender ∧ (endByeFault s).acker = s.acker ∧
    (endByeFault s).applyq = s.applyq ∧ (endByeFault s).pending = s.pending := by
  simp only [endByeFault]; (repeat' split) <;> simp

@[simp] theorem clearEventsEffect_frame (args : List Byte) (s : State) :
    (clearEventsEffect args s).state.inReset = s.inReset ∧ (clearEventsEffect args s).state.mgmt = s.mgmt ∧
    (clearEventsEffect args s).state.counters = s.counters ∧ (clearEventsEffect args s).state.params = s.params ∧
    (clearEventsEffect args s).state.table = s.table ∧ (clearEventsEffect args s).state.part = s.part ∧
    (clearEventsEffect args s).state.host = s.host ∧ (clearEventsEffect args s).state.port = s.port ∧
    (clearEventsEffect args s).state.mem = s.mem ∧ (clearEventsEffect args s).state.capture = s.capture ∧
    (clearEventsEffect args s).state.hold = s.hold ∧ (clearEventsEffect args s).state.journal = s.journal ∧
    (clearEventsEffect args s).state.copy = s.copy ∧ (clearEventsEffect args s).state.session = s.session ∧
    (clearEventsEffect args s).state.tx = s.tx ∧ (clearEventsEffect args s).state.rx = s.rx ∧
    (clearEventsEffect args s).state.sender = s.sender ∧ (clearEventsEffect args s).state.acker = s.acker ∧
    (clearEventsEffect args s).state.applyq = s.applyq ∧ (clearEventsEffect args s).state.pending = s.pending := by
  simp [clearEventsEffect]

@[simp] theorem setEnablesEffect_frame (args : List Byte) (s : State) :
    (setEnablesEffect args s).state.inReset = s.inReset ∧ (setEnablesEffect args s).state.mgmt = s.mgmt ∧
    (setEnablesEffect args s).state.counters = s.counters ∧ (setEnablesEffect args s).state.params = s.params ∧
    (setEnablesEffect args s).state.table = s.table ∧ (setEnablesEffect args s).state.part = s.part ∧
    (setEnablesEffect args s).state.host = s.host ∧ (setEnablesEffect args s).state.port = s.port ∧
    (setEnablesEffect args s).state.mem = s.mem ∧ (setEnablesEffect args s).state.capture = s.capture ∧
    (setEnablesEffect args s).state.hold = s.hold ∧ (setEnablesEffect args s).state.journal = s.journal ∧
    (setEnablesEffect args s).state.copy = s.copy ∧ (setEnablesEffect args s).state.session = s.session ∧
    (setEnablesEffect args s).state.tx = s.tx ∧ (setEnablesEffect args s).state.rx = s.rx ∧
    (setEnablesEffect args s).state.sender = s.sender ∧ (setEnablesEffect args s).state.acker = s.acker ∧
    (setEnablesEffect args s).state.applyq = s.applyq ∧ (setEnablesEffect args s).state.pending = s.pending := by
  simp [setEnablesEffect]

@[simp] theorem clearCountersEffect_frame (args : List Byte) (s : State) :
    (clearCountersEffect args s).state.inReset = s.inReset ∧ (clearCountersEffect args s).state.mgmt = s.mgmt ∧
    (clearCountersEffect args s).state.events = s.events ∧ (clearCountersEffect args s).state.params = s.params ∧
    (clearCountersEffect args s).state.table = s.table ∧ (clearCountersEffect args s).state.part = s.part ∧
    (clearCountersEffect args s).state.host = s.host ∧ (clearCountersEffect args s).state.port = s.port ∧
    (clearCountersEffect args s).state.mem = s.mem ∧ (clearCountersEffect args s).state.capture = s.capture ∧
    (clearCountersEffect args s).state.hold = s.hold ∧ (clearCountersEffect args s).state.journal = s.journal ∧
    (clearCountersEffect args s).state.copy = s.copy ∧ (clearCountersEffect args s).state.session = s.session ∧
    (clearCountersEffect args s).state.tx = s.tx ∧ (clearCountersEffect args s).state.rx = s.rx ∧
    (clearCountersEffect args s).state.sender = s.sender ∧ (clearCountersEffect args s).state.acker = s.acker ∧
    (clearCountersEffect args s).state.applyq = s.applyq ∧
    (clearCountersEffect args s).state.pending = s.pending := by
  simp [clearCountersEffect]

@[simp] theorem writeStagedWindowEffect_frame (args : List Byte) (s : State) :
    (writeStagedWindowEffect args s).state.inReset = s.inReset ∧
    (writeStagedWindowEffect args s).state.mgmt = s.mgmt ∧ (writeStagedWindowEffect args s).state.events = s.events ∧
    (writeStagedWindowEffect args s).state.counters = s.counters ∧
    (writeStagedWindowEffect args s).state.params = s.params ∧ (writeStagedWindowEffect args s).state.part = s.part ∧
    (writeStagedWindowEffect args s).state.host = s.host ∧ (writeStagedWindowEffect args s).state.port = s.port ∧
    (writeStagedWindowEffect args s).state.mem = s.mem ∧ (writeStagedWindowEffect args s).state.capture = s.capture ∧
    (writeStagedWindowEffect args s).state.hold = s.hold ∧
    (writeStagedWindowEffect args s).state.journal = s.journal ∧
    (writeStagedWindowEffect args s).state.copy = s.copy ∧
    (writeStagedWindowEffect args s).state.session = s.session ∧ (writeStagedWindowEffect args s).state.tx = s.tx ∧
    (writeStagedWindowEffect args s).state.rx = s.rx ∧ (writeStagedWindowEffect args s).state.sender = s.sender ∧
    (writeStagedWindowEffect args s).state.acker = s.acker ∧
    (writeStagedWindowEffect args s).state.applyq = s.applyq ∧
    (writeStagedWindowEffect args s).state.pending = s.pending := by
  simp only [writeStagedWindowEffect]; (repeat' split) <;> simp

@[simp] theorem copyActiveToStagedEffect_frame (args : List Byte) (s : State) :
    (copyActiveToStagedEffect args s).state.inReset = s.inReset ∧
    (copyActiveToStagedEffect args s).state.mgmt = s.mgmt ∧
    (copyActiveToStagedEffect args s).state.events = s.events ∧
    (copyActiveToStagedEffect args s).state.counters = s.counters ∧
    (copyActiveToStagedEffect args s).state.params = s.params ∧
    (copyActiveToStagedEffect args s).state.part = s.part ∧ (copyActiveToStagedEffect args s).state.host = s.host ∧
    (copyActiveToStagedEffect args s).state.port = s.port ∧ (copyActiveToStagedEffect args s).state.mem = s.mem ∧
    (copyActiveToStagedEffect args s).state.capture = s.capture ∧
    (copyActiveToStagedEffect args s).state.hold = s.hold ∧
    (copyActiveToStagedEffect args s).state.journal = s.journal ∧
    (copyActiveToStagedEffect args s).state.copy = s.copy ∧
    (copyActiveToStagedEffect args s).state.session = s.session ∧ (copyActiveToStagedEffect args s).state.tx = s.tx ∧
    (copyActiveToStagedEffect args s).state.rx = s.rx ∧ (copyActiveToStagedEffect args s).state.sender = s.sender ∧
    (copyActiveToStagedEffect args s).state.acker = s.acker ∧
    (copyActiveToStagedEffect args s).state.applyq = s.applyq ∧
    (copyActiveToStagedEffect args s).state.pending = s.pending := by
  simp only [copyActiveToStagedEffect]; (repeat' split) <;> simp

@[simp] theorem commitTableEffect_frame (args : List Byte) (s : State) :
    (commitTableEffect args s).state.inReset = s.inReset ∧ (commitTableEffect args s).state.mgmt = s.mgmt ∧
    (commitTableEffect args s).state.counters = s.counters ∧ (commitTableEffect args s).state.params = s.params ∧
    (commitTableEffect args s).state.part = s.part ∧ (commitTableEffect args s).state.host = s.host ∧
    (commitTableEffect args s).state.port = s.port ∧ (commitTableEffect args s).state.mem = s.mem ∧
    (commitTableEffect args s).state.hold = s.hold ∧ (commitTableEffect args s).state.session = s.session ∧
    (commitTableEffect args s).state.tx = s.tx ∧ (commitTableEffect args s).state.rx = s.rx ∧
    (commitTableEffect args s).state.sender = s.sender ∧ (commitTableEffect args s).state.acker = s.acker ∧
    (commitTableEffect args s).state.applyq = s.applyq ∧ (commitTableEffect args s).state.pending = s.pending := by
  simp only [commitTableEffect]; (repeat' split) <;> simp

@[simp] theorem setConfigEffect_frame (args : List Byte) (s : State) :
    (setConfigEffect args s).state.inReset = s.inReset ∧ (setConfigEffect args s).state.mgmt = s.mgmt ∧
    (setConfigEffect args s).state.events = s.events ∧ (setConfigEffect args s).state.counters = s.counters ∧
    (setConfigEffect args s).state.table = s.table ∧ (setConfigEffect args s).state.part = s.part ∧
    (setConfigEffect args s).state.host = s.host ∧ (setConfigEffect args s).state.port = s.port ∧
    (setConfigEffect args s).state.mem = s.mem ∧ (setConfigEffect args s).state.capture = s.capture ∧
    (setConfigEffect args s).state.hold = s.hold ∧ (setConfigEffect args s).state.journal = s.journal ∧
    (setConfigEffect args s).state.copy = s.copy ∧ (setConfigEffect args s).state.session = s.session ∧
    (setConfigEffect args s).state.tx = s.tx ∧ (setConfigEffect args s).state.rx = s.rx ∧
    (setConfigEffect args s).state.sender = s.sender ∧ (setConfigEffect args s).state.acker = s.acker ∧
    (setConfigEffect args s).state.applyq = s.applyq ∧ (setConfigEffect args s).state.pending = s.pending := by
  simp only [setConfigEffect]; (repeat' split) <;> simp

@[simp] theorem setRoleEffect_frame (args : List Byte) (s : State) :
    (setRoleEffect args s).state.inReset = s.inReset ∧ (setRoleEffect args s).state.mgmt = s.mgmt ∧
    (setRoleEffect args s).state.params = s.params ∧ (setRoleEffect args s).state.table = s.table ∧
    (setRoleEffect args s).state.port = s.port ∧ (setRoleEffect args s).state.mem = s.mem ∧
    (setRoleEffect args s).state.pending = s.pending := by
  simp only [setRoleEffect]; (repeat' split) <;> simp

@[simp] theorem promoteEffect_frame (args : List Byte) (s : State) :
    (promoteEffect args s).state.inReset = s.inReset ∧ (promoteEffect args s).state.mgmt = s.mgmt ∧
    (promoteEffect args s).state.params = s.params ∧ (promoteEffect args s).state.table = s.table ∧
    (promoteEffect args s).state.port = s.port ∧ (promoteEffect args s).state.mem = s.mem ∧
    (promoteEffect args s).state.applyq = s.applyq ∧ (promoteEffect args s).state.pending = s.pending := by
  simp only [promoteEffect]; (repeat' split) <;> simp

@[simp] theorem linkEnableEffect_frame (args : List Byte) (s : State) :
    (linkEnableEffect args s).state.inReset = s.inReset ∧ (linkEnableEffect args s).state.mgmt = s.mgmt ∧
    (linkEnableEffect args s).state.events = s.events ∧ (linkEnableEffect args s).state.counters = s.counters ∧
    (linkEnableEffect args s).state.params = s.params ∧ (linkEnableEffect args s).state.table = s.table ∧
    (linkEnableEffect args s).state.part = s.part ∧ (linkEnableEffect args s).state.host = s.host ∧
    (linkEnableEffect args s).state.port = s.port ∧ (linkEnableEffect args s).state.mem = s.mem ∧
    (linkEnableEffect args s).state.capture = s.capture ∧ (linkEnableEffect args s).state.hold = s.hold ∧
    (linkEnableEffect args s).state.journal = s.journal ∧ (linkEnableEffect args s).state.copy = s.copy ∧
    (linkEnableEffect args s).state.sender = s.sender ∧ (linkEnableEffect args s).state.acker = s.acker ∧
    (linkEnableEffect args s).state.applyq = s.applyq ∧ (linkEnableEffect args s).state.pending = s.pending := by
  simp only [linkEnableEffect]; (repeat' split) <;> simp

@[simp] theorem linkDisableEffect_frame (args : List Byte) (s : State) :
    (linkDisableEffect args s).state.inReset = s.inReset ∧ (linkDisableEffect args s).state.mgmt = s.mgmt ∧
    (linkDisableEffect args s).state.params = s.params ∧ (linkDisableEffect args s).state.table = s.table ∧
    (linkDisableEffect args s).state.part = s.part ∧ (linkDisableEffect args s).state.host = s.host ∧
    (linkDisableEffect args s).state.port = s.port ∧ (linkDisableEffect args s).state.mem = s.mem ∧
    (linkDisableEffect args s).state.capture = s.capture ∧ (linkDisableEffect args s).state.hold = s.hold ∧
    (linkDisableEffect args s).state.applyq = s.applyq ∧ (linkDisableEffect args s).state.pending = s.pending := by
  simp only [linkDisableEffect]; (repeat' split) <;> simp

@[simp] theorem startResyncEffect_frame (args : List Byte) (s : State) :
    (startResyncEffect args s).state.inReset = s.inReset ∧ (startResyncEffect args s).state.mgmt = s.mgmt ∧
    (startResyncEffect args s).state.params = s.params ∧ (startResyncEffect args s).state.table = s.table ∧
    (startResyncEffect args s).state.part = s.part ∧ (startResyncEffect args s).state.port = s.port ∧
    (startResyncEffect args s).state.mem = s.mem ∧ (startResyncEffect args s).state.applyq = s.applyq ∧
    (startResyncEffect args s).state.pending = s.pending := by
  simp only [startResyncEffect]; (repeat' split) <;> simp

/-! ## The end of a frame with ABORT -/

/-- The journal after a held rewind has been taken (R17, R135). -/
def heldRewindTaken (j : Journal) : Journal :=
  match j.heldRewind with
  | none => j
  | some m =>
    let q := if seqPrecedes m j.oldest then j.oldest else m
    if q = j.sendPoint then { j with heldRewind := none }
    else { j with entries := j.entries.map (Entry.rewind q), sendPoint := q, heldRewind := none }

theorem takeHeldRewind_eq (s : State) : takeHeldRewind s = s.setJournal (heldRewindTaken s.journal) := by
  unfold takeHeldRewind heldRewindTaken
  cases s.journal.heldRewind with
  | none => rfl
  | some m =>
    dsimp only
    generalize (if seqPrecedes m s.journal.oldest = true then s.journal.oldest else m) = q
    unfold rewind
    by_cases hq : q = s.journal.sendPoint
    · exact (if_pos hq).trans (by rw [if_pos hq])
    · exact (if_neg hq).trans (by rw [if_neg hq]; rfl)

@[simp] theorem heldRewindTaken_of_none (j : Journal) (h : j.heldRewind = none) : heldRewindTaken j = j := by
  simp [heldRewindTaken, h]

/-- The transmitter after the frame in transmission is ended with ABORT (R109). -/
def abortedTx (x : Transmitter) : Transmitter :=
  match x.sending with
  | none => x
  | some f => { x with sending := none, lastEnding := .aborted f.bytes, aborts := x.aborts + 1 }

theorem abortFrame_of_idle (s : State) (h : s.tx.sending = none) : abortFrame s = s := by
  simp [abortFrame, h]

theorem abortFrame_of_sending (s : State) (h : s.tx.sending ≠ none) :
    abortFrame s = (s.setTx (abortedTx s.tx)).setJournal (heldRewindTaken s.journal) := by
  obtain ⟨f, hf⟩ := Option.ne_none_iff_exists'.mp h
  simp [abortFrame, abortedTx, hf, takeHeldRewind_eq]

@[simp] theorem abortFrame_tx (s : State) : (abortFrame s).tx = abortedTx s.tx := by
  by_cases h : s.tx.sending = none
  · simp [abortFrame_of_idle s h, abortedTx, h]
  · simp [abortFrame_of_sending s h]

theorem abortFrame_journal (s : State) :
    (abortFrame s).journal = if s.tx.sending = none then s.journal else heldRewindTaken s.journal := by
  split
  · rename_i h
    rw [abortFrame_of_idle s h]
  · rename_i h
    rw [abortFrame_of_sending s h]
    rfl

/-- With no rewind held an ABORT leaves the journal alone. -/
theorem abortFrame_journal_of_none (s : State) (h : s.journal.heldRewind = none) :
    (abortFrame s).journal = s.journal := by
  rw [abortFrame_journal]
  split <;> simp [h]

@[simp] theorem abortedTx_fields (x : Transmitter) :
    (abortedTx x).sending = none ∧ (abortedTx x).byeDue = x.byeDue ∧ (abortedTx x).helloDue = x.helloDue := by
  unfold abortedTx
  split <;> simp_all

/-! ## The end of a DATA frame -/

/-- Without a DATA frame in transmission none ends. -/
theorem endDataFrame_of_not_sending (s : State) (h : sendingData s = false) : endDataFrame s = s := by
  unfold endDataFrame
  split
  · simp_all [sendingData]
  · rfl

/-- The END of a DATA frame: its entry is sent, the send point advances, a held rewind is taken (R8, R17). -/
theorem endDataFrame_journal (s : State) (q : Seq) (bytes : List Byte)
    (h : s.tx.sending = some { kind := .data q, bytes := bytes }) :
    (endDataFrame s).journal = heldRewindTaken
      { s.journal with entries := s.journal.entries.map (Entry.sent q), sendPoint := s.journal.sendPoint + 1#12 } := by
  simp only [endDataFrame, h]
  rw [takeHeldRewind_eq]
  split <;> rfl

theorem sendingData_iff (s : State) :
    sendingData s = true ↔ ∃ q bytes, s.tx.sending = some { kind := .data q, bytes := bytes } := by
  unfold sendingData
  split
  · simp_all
  · rename_i hne
    refine ⟨fun h => absurd h Bool.false_ne_true, fun ⟨q, bytes, h⟩ => absurd h (hne q bytes)⟩

/-! ## A stream restart in its parts -/

/-- The first part of a stream restart: the discard, the GENERATION and TABLE entries, and the copy states (R20, R172).
What follows it is the session's part, the event, the SYNCED append offered and the end of a stall. -/
def restartBegun (r : RestartReason) (s : State) : State :=
  let u := append (.table s.table.active false) (append (.generation (restartGeneration r s))
    ((discardJournal s).setJournal
      { (discardJournal s).journal with generation := restartGeneration r s, lastRestart := r }))
  u.setCopy { u.copy with states := restartStates s.table.active, syncOwed := true }

/-- The new generation goes by generations that a discard keeps (R21). -/
@[simp] theorem restartGeneration_discardJournal (r : RestartReason) (s : State) :
    restartGeneration r (discardJournal s) = restartGeneration r s := by
  unfold restartGeneration
  split <;> simp [discardJournal_journal]

theorem restart_eq (r : RestartReason) (s : State) :
    restart r s = endStall (offerSynced (count .streamRestarts (raise .streamRestart
      (restartSession (restartBegun r s))))) := by
  simp [restart, restartBegun]

@[simp] theorem restartBegun_frame (r : RestartReason) (s : State) :
    (restartBegun r s).inReset = s.inReset ∧ (restartBegun r s).mgmt = s.mgmt ∧
    (restartBegun r s).events = (discardJournal s).events ∧
    (restartBegun r s).counters = (discardJournal s).counters ∧ (restartBegun r s).params = s.params ∧
    (restartBegun r s).table = s.table ∧ (restartBegun r s).part = s.part ∧
    (restartBegun r s).host = (discardJournal s).host ∧ (restartBegun r s).port = s.port ∧
    (restartBegun r s).mem = s.mem ∧ (restartBegun r s).hold = (discardJournal s).hold ∧
    (restartBegun r s).session = s.session ∧ (restartBegun r s).tx = s.tx ∧ (restartBegun r s).rx = s.rx ∧
    (restartBegun r s).sender = s.sender ∧ (restartBegun r s).acker = s.acker ∧
    (restartBegun r s).applyq = s.applyq ∧ (restartBegun r s).pending = s.pending := by
  simp [restartBegun]

/-- The journal a stream restart begins: a GENERATION entry and a TABLE entry, both READY (R20). -/
theorem restartBegun_journal (r : RestartReason) (s : State) :
    (restartBegun r s).journal =
      { s.journal with
        entries := [newEntry s.journal.nextSeq (.generation (restartGeneration r s)) .ready,
          newEntry (s.journal.nextSeq + 1#12) (.table s.table.active false) .ready]
        nextSeq := s.journal.nextSeq + 1#12 + 1#12
        sendPoint := s.journal.nextSeq
        generation := restartGeneration r s
        lastRestart := r
        heldRewind := none } := by
  simp [restartBegun, append_journal, discardJournal_journal, Entry.seal, newEntry]

@[simp] theorem restartBegun_copy_states (r : RestartReason) (s : State) :
    (restartBegun r s).copy.states = restartStates s.table.active ∧ (restartBegun r s).copy.syncOwed = true := by
  simp [restartBegun]

/-! ## Entry to UP in its parts -/

/-- The session is UP and its HELLO timer stopped (R119). -/
def upSession (s : State) : State := s.setSession { s.session with state := .up, helloTimer := none }

/-- The silence timer starts (R105, R119). -/
def startSilence (s : State) : State :=
  s.setRx { s.rx with silenceTimer := some (100 * s.params.silenceTimeout) }

theorem enterUp_of_primary (f : HelloFrame) (s : State) (h : s.part.role = .primary) :
    enterUp f s = raise .linkUp (startSilence (enterUpPrimary f (upSession s))) := by
  simp only [enterUp, State.setSession_part, h]
  rfl

theorem enterUp_of_secondary (f : HelloFrame) (s : State) (h : s.part.role = .secondary) :
    enterUp f s = raise .linkUp (startSilence (enterUpSecondary (upSession s))) := by
  simp only [enterUp, State.setSession_part, h]
  rfl

theorem enterUp_of_detached (f : HelloFrame) (s : State) (h : s.part.role = .detached) :
    enterUp f s = raise .linkUp (startSilence (upSession s)) := by
  simp only [enterUp, State.setSession_part, h]
  rfl

/-! ## A soft reset in its parts -/

/-- The first part of a soft reset: every block takes its values; the SYNCED append, the clearing of the events and the
arbiter follow (R195). -/
def softResetBegun (s : State) : State :=
  let s := softResetHost (discardJournal s)
  let s := s.setCapture { stallTimer := none, sealTimer := none }
  let s := s.setTable { s.table with commitPending := false }
  let s := s.setPart { s.part with promotionPending := false }
  let s := enterOff s
  let s := s.setSession { s.session with seen := false, rejectRestarts := 0 }
  let s := s.setRx { s.rx with silenceTimer := none }
  let s := clearSender s
  let s := s.setAcker { linkPending := false, nakMark := false, nakArmed := true, statusTimer := none }
  let s := s.setApplyq { s.applyq with queue := [], expected := 0#12, lastApplied := none, streamGeneration := 0#16,
                                       consistent := false, reject := false }
  softResetCopy s

/-- The soft reset with its events cleared, before the arbiter grants again. -/
def softResetDone (s : State) : State :=
  (offerSynced (softResetBegun s)).setEvents (offerSynced (softResetBegun s)).events.clearAll

theorem softReset_eq (s : State) : softReset s = arbitrate (softResetDone s) := rfl

@[simp] theorem softResetBegun_frame (s : State) :
    (softResetBegun s).inReset = s.inReset ∧ (softResetBegun s).mgmt = s.mgmt ∧
    (softResetBegun s).events = (discardJournal s).events ∧
    (softResetBegun s).counters = (discardJournal s).counters ∧ (softResetBegun s).params = s.params ∧
    (softResetBegun s).table = { s.table with commitPending := false } ∧
    (softResetBegun s).part = { s.part with promotionPending := false } ∧
    (softResetBegun s).host = (softResetHost (discardJournal s)).host ∧ (softResetBegun s).port = s.port ∧
    (softResetBegun s).mem = s.mem ∧
    (softResetBegun s).capture = { stallTimer := none, sealTimer := none } ∧
    (softResetBegun s).hold = (discardJournal s).hold ∧ (softResetBegun s).copy = (softResetCopy s).copy ∧
    (softResetBegun s).session =
      { s.session with state := .off, seen := false, rejectRestarts := 0, helloTimer := none } ∧
    (softResetBegun s).tx = { abortedTx s.tx with byeDue := none, helloDue := false } ∧
    (softResetBegun s).rx = { s.rx with framing := .hunt, silenceTimer := none, good := [] } ∧
    (softResetBegun s).sender = { peerLimit := 0#12, retryCount := 0, ackTimer := none } ∧
    (softResetBegun s).acker = { linkPending := false, nakMark := false, nakArmed := true, statusTimer := none } ∧
    (softResetBegun s).applyq =
      { s.applyq with queue := [], expected := 0#12, lastApplied := none, streamGeneration := 0#16,
                      consistent := false, reject := false } ∧
    (softResetBegun s).pending = s.pending := by
  have hcopy : ∀ u v : State, u.copy = v.copy → (softResetCopy u).copy = (softResetCopy v).copy := by
    intro u v h
    unfold softResetCopy
    rw [h]
    split <;> simp [h]
  simp [softResetBegun, enterOff, clearSender, hcopy _ s]

/-- A soft reset discards the journal; no rewind is held behind the frame it aborts then. -/
theorem softResetBegun_journal (s : State) : (softResetBegun s).journal =
    { s.journal with entries := [], sendPoint := s.journal.nextSeq, heldRewind := none } := by
  simp [softResetBegun, enterOff, abortFrame_journal, discardJournal_journal]

end Sys2Proof.Proofs
end

section
/-! The registers: memory in canonical form, REPEATs behind their flags, counters and parameters in range (R44, R189,
R190, R193). Each condition looks at one field of the state, so that a function which leaves the field alone keeps it by
its frame. -/

namespace Sys2Proof.Proofs

open Sys2Proof.Machine

/-! ## Parameters -/

/-- The parameters with one value replaced, read by their ids. -/
theorem params_get?_put (p : Params) (id v j : Nat) (hid : id < 9) (hj : j < 9) :
    (p.put id v).get? j = if j = id then some v else p.get? j := by
  interval_cases id <;> interval_cases j <;> rfl

/-- A value in the range of its parameter leaves every parameter in its range. -/
theorem paramsSound_put (s : State) (id v : Nat) (hid : id ≤ 8) (hv : paramInRange id v = true)
    (h : ParamsSound s) : ParamsSound (s.setParams (s.params.put id v)) := by
  intro j
  obtain ⟨w, hw, hrange⟩ := h j
  rw [State.setParams_params, params_get?_put _ _ _ _ (by omega) j.isLt]
  by_cases hj : j.val = id
  · exact ⟨v, by simp [hj], hj ▸ hv⟩
  · exact ⟨w, by simpa [hj] using hw, hrange⟩

theorem paramsSound_of_eq {s t : State} (ht : t.params = s.params) (h : ParamsSound s) : ParamsSound t := by
  intro j
  rw [ht]
  exact h j

theorem paramsSound_reset : ParamsSound State.reset := by
  unfold ParamsSound
  decide

/-- Only SET_CONFIG and a reset give a parameter another value. -/
theorem paramsSound_kept : KeptByCommands ParamsSound := by
  constructor
  case setConfig =>
    intro args s h
    unfold setConfigEffect
    dsimp only
    repeat' split
    case isFalse.isFalse.isFalse.isFalse =>
      exact paramsSound_put s _ _ (by omega) (by simpa using ‹¬paramInRange _ _ = false›) h
    all_goals exact h
  case powerReset => exact fun _ _ _ => paramsSound_reset
  case endBurst =>
    intro w c v s t h _ _ hend
    refine paramsSound_of_eq ?_ h
    obtain rfl | ⟨_, _, rfl⟩ := endBurst_cases w c v s t hend <;> simp
  all_goals
    intros
    refine paramsSound_of_eq ?_ ‹ParamsSound _›
    simp

/-! ## Memory -/

/-- The canonical form of memory, as a condition on the memory field alone. -/
def Canonical (m : Memory) : Prop := m.wf

section
variable {s : State} (h : Canonical s.mem)
include h

@[simp] theorem canonical_performWrite (w : HostWrite) : Canonical (performWrite w s).mem :=
  s.mem.writeWord_wf _ _ h

@[simp] theorem canonical_afterCapture (w : HostWrite) (m : Mode) : Canonical (afterCapture w m s).mem := by
  simp only [afterCapture]
  (repeat' split) <;> simp -implicitDefEqProofs [h]

@[simp] theorem canonical_openOrStall (w : HostWrite) (id : WindowId) (m : Mode) :
    Canonical (openOrStall w id m s).mem := by
  unfold openOrStall
  split <;> simp -implicitDefEqProofs [h]

@[simp] theorem canonical_captureWrite (w : HostWrite) (id : WindowId) (m : Mode) :
    Canonical (captureWrite w id m s).mem := by
  simp only [captureWrite]
  (repeat' split) <;> simp -implicitDefEqProofs [h]

@[simp] theorem canonical_grantWrite (w : HostWrite) : Canonical (grantWrite w s).mem := by
  unfold grantWrite
  split <;> simp -implicitDefEqProofs [degrade, h]

@[simp] theorem canonical_grantHost : Canonical (grantHost s).mem := by
  simp only [grantHost]
  (repeat' split) <;> simp -implicitDefEqProofs [h]

@[simp] theorem canonical_arbitrate : Canonical (arbitrate s).mem :=
  arbitrate_keeps (P := fun u => Canonical u.mem)
    (fun u hu => grantOnce_keeps (P := fun u => Canonical u.mem) u (fun hu => canonical_grantHost hu)
      (fun hu => by simpa using hu) hu) s h

@[simp] theorem canonical_writeAll (accesses : List (Nat × MaskedWord)) : Canonical (s.mem.writeAll accesses) :=
  s.mem.writeAll_wf _ h

@[simp] theorem canonical_afterReads (addrs : List Nat) : Canonical (s.mem.afterReads addrs) :=
  s.mem.afterReads_wf _ h

/-- A power-on or pin reset keeps memory, with the words an apply operation has written (R58). -/
theorem canonical_powerReset (n : Nat) : Canonical (powerReset n s).mem := by
  change Canonical (memoryAtReset n s)
  unfold memoryAtReset
  split <;> simp -implicitDefEqProofs [h]

end

@[simp] theorem burstFreed_mem (c : Nat) (s : State) :
    (burstFreed c s).mem = s.mem.afterReads (burstAddresses c) := rfl

/-- Only the memory operations of the host, the Apply Engine and the Copy Engine touch memory. -/
theorem canonical_kept : KeptByCommands (fun s => Canonical s.mem) := by
  constructor
  case powerReset => exact fun n s h => canonical_powerReset h n
  case softReset => intro s h; simp -implicitDefEqProofs [softReset, h]
  case presentTransaction => intro txn s h; unfold presentTransaction; split <;> simp -implicitDefEqProofs [h]
  case endHostRead => intro s h; simp only [endHostRead]; split <;> simp -implicitDefEqProofs [h]
  case endHostWrite => intro s h; simp only [endHostWrite]; (repeat' split) <;> simp -implicitDefEqProofs [h]
  case represent => intro s h; simp -implicitDefEqProofs [h]
  case endApply => intro s h; simp only [endApply]; split <;> simp -implicitDefEqProofs [h]
  case endBurst =>
    intro w c v s t h _ _ hend
    obtain rfl | ⟨_, _, rfl⟩ := endBurst_cases w c v s t hend <;> simp -implicitDefEqProofs [h]
  case applyTake =>
    intro s h
    unfold applyTake takeEntry
    (repeat' split) <;> simp -implicitDefEqProofs [h]
  case copyRequest => intro s h; unfold copyRequest; (repeat' split) <;> simp -implicitDefEqProofs [h]
  all_goals intros; simpa

/-! ## Events -/

/-- A REPEAT is set only while its flag is set, as a condition on the Event Unit alone (R190). -/
def RepeatsFlagged (u : EventUnit) : Prop := u.repeats &&& ~~~u.flags = 0#12

theorem repeatsFlagged_iff (u : EventUnit) :
    RepeatsFlagged u ↔ ∀ k < 12, u.repeats.getLsbD k = true → u.flags.getLsbD k = true := by
  unfold RepeatsFlagged
  rw [BitVec.eq_of_getLsbD_eq_iff]
  simp +contextual

/-- A word of the Event Unit holds no bit of an event, or the event's bit. -/
theorem and_event_bit (x : BitVec 12) (e : Event) : x &&& e.bit = if x.getLsbD e.id then e.bit else 0#12 :=
  BitVec.and_twoPow x e.id

theorem event_id_lt (e : Event) : e.id < 12 := by cases e <;> decide

theorem event_bit_getLsbD (e : Event) (k : Nat) : e.bit.getLsbD k = decide (e.id = k) := by
  have hbit : e.bit = BitVec.twoPow 12 e.id := rfl
  have hid := event_id_lt e
  rw [hbit, BitVec.getLsbD_twoPow]
  by_cases hk : e.id = k
  · simp [← hk, hid]
  · simp [hk]

theorem event_bit_ne_zero (e : Event) : e.bit ≠ 0#12 := by cases e <;> decide

/-- An event's bit is absent from a word exactly when its conjunction with the word is 0. -/
theorem and_event_bit_eq_zero (x : BitVec 12) (e : Event) : x &&& e.bit = 0#12 ↔ x.getLsbD e.id = false := by
  rw [and_event_bit]
  cases h : x.getLsbD e.id <;> simp [event_bit_ne_zero]

/-- Raising sets the flag of its event (R190). -/
theorem raise_unit_flags (u : EventUnit) (e : Event) (k : Nat) :
    (u.raise e).flags.getLsbD k = (u.flags.getLsbD k || decide (e.id = k)) := by
  unfold EventUnit.raise
  split
  · simp [event_bit_getLsbD]
  · rename_i hset
    rw [and_event_bit_eq_zero] at hset
    by_cases hk : e.id = k
    · simpa [← hk] using hset
    · simp [hk]

/-- Raising sets the REPEAT of its event over a set flag (R190). -/
theorem raise_unit_repeats (u : EventUnit) (e : Event) (k : Nat) :
    (u.raise e).repeats.getLsbD k = (u.repeats.getLsbD k || (decide (e.id = k) && u.flags.getLsbD e.id)) := by
  unfold EventUnit.raise
  split
  · rename_i hclear
    rw [and_event_bit_eq_zero] at hclear
    simp [hclear]
  · rename_i hset
    rw [and_event_bit_eq_zero] at hset
    simp [event_bit_getLsbD, by simpa using hset]

/-- Raising keeps every REPEAT behind its flag (R190). -/
theorem repeatsFlagged_raise_unit (u : EventUnit) (e : Event) (h : RepeatsFlagged u) : RepeatsFlagged (u.raise e) := by
  rw [repeatsFlagged_iff] at h ⊢
  intro k hk
  rw [raise_unit_flags, raise_unit_repeats, Bool.or_eq_true, Bool.or_eq_true]
  rintro (hold | hnew)
  · exact .inl (h k hk hold)
  · exact .inr (Bool.and_eq_true_iff.mp hnew).1

/-- Every counter is at most 65535, as a condition on the counters alone (R193). -/
def CountersInRange (v : Vector Nat 15) : Prop := ∀ i : Fin 15, v[i] ≤ Config.counterMax

theorem eventsSound_iff (s : State) : EventsSound s ↔ RepeatsFlagged s.events ∧ CountersInRange s.counters := Iff.rfl

theorem countersInRange_zero : CountersInRange (Vector.replicate 15 0) := by
  intro i
  simp [Config.counterMax]

@[simp] theorem repeatsFlagged_raise {s : State} (e : Event) (h : RepeatsFlagged s.events) :
    RepeatsFlagged (raise e s).events :=
  repeatsFlagged_raise_unit s.events e h

@[simp] theorem countersInRange_count {s : State} (c : Counter) (h : CountersInRange s.counters) :
    CountersInRange (count c s).counters := by
  intro i
  have hi := h i
  by_cases hci : c.id = i
  · simp [count, hci, Config.counterMax]
  · simpa [count, Vector.getElem_set, Fin.val_inj, hci] using hi

/-! ## What the shared operations raise and count -/

section
variable {s : State} (h : RepeatsFlagged s.events ∧ CountersInRange s.counters)
include h

@[simp] theorem eventsSound_discardJournal :
    RepeatsFlagged (discardJournal s).events ∧ CountersInRange (discardJournal s).counters := by
  simp only [discardJournal]
  (repeat' split) <;> simp -implicitDefEqProofs [h]

@[simp] theorem eventsSound_leaveUp (r : LossReason) :
    RepeatsFlagged (leaveUp r s).events ∧ CountersInRange (leaveUp r s).counters := by
  simp only [leaveUp]
  (repeat' split) <;> simp -implicitDefEqProofs [h]

@[simp] theorem eventsSound_loseSession (r : LossReason) :
    RepeatsFlagged (loseSession r s).events ∧ CountersInRange (loseSession r s).counters := by
  simp -implicitDefEqProofs [loseSession, h]

@[simp] theorem eventsSound_enterFault (c : FaultCause) :
    RepeatsFlagged (enterFault c s).events ∧ CountersInRange (enterFault c s).counters := by
  simp only [enterFault]
  (repeat' split) <;> simp -implicitDefEqProofs [h]

@[simp] theorem eventsSound_offerSynced :
    RepeatsFlagged (offerSynced s).events ∧ CountersInRange (offerSynced s).counters := by
  simp only [offerSynced]
  (repeat' split) <;> simp -implicitDefEqProofs [h]

@[simp] theorem eventsSound_restartSession :
    RepeatsFlagged (restartSession s).events ∧ CountersInRange (restartSession s).counters := by
  simp only [restartSession]
  (repeat' split) <;> simp -implicitDefEqProofs [h]

@[simp] theorem eventsSound_restart (r : RestartReason) :
    RepeatsFlagged (restart r s).events ∧ CountersInRange (restart r s).counters := by
  have hsession := eventsSound_restartSession (s := restartBegun r s) (by simp [h])
  simp [restart_eq, hsession]

@[simp] theorem eventsSound_completeCommit :
    RepeatsFlagged (completeCommit s).events ∧ CountersInRange (completeCommit s).counters := by
  simp -implicitDefEqProofs [completeCommit, h]

@[simp] theorem eventsSound_offerCommit :
    RepeatsFlagged (offerCommit s).events ∧ CountersInRange (offerCommit s).counters := by
  simp only [offerCommit]
  (repeat' split) <;> simp -implicitDefEqProofs [h]

@[simp] theorem eventsSound_completePromotion :
    RepeatsFlagged (completePromotion s).events ∧ CountersInRange (completePromotion s).counters := by
  simp -implicitDefEqProofs [completePromotion, h]

@[simp] theorem eventsSound_endPromotion :
    RepeatsFlagged (endPromotion s).events ∧ CountersInRange (endPromotion s).counters := by
  simp only [endPromotion]
  (repeat' split) <;> simp -implicitDefEqProofs [h]

@[simp] theorem eventsSound_rejectEntry :
    RepeatsFlagged (rejectEntry s).events ∧ CountersInRange (rejectEntry s).counters := by
  simp -implicitDefEqProofs [rejectEntry, h]

@[simp] theorem eventsSound_applySynced (g : Gen) :
    RepeatsFlagged (applySynced g s).events ∧ CountersInRange (applySynced g s).counters := by
  simp only [applySynced]
  (repeat' split) <;> simp -implicitDefEqProofs [h]

@[simp] theorem eventsSound_finishEntry (q : Seq) :
    RepeatsFlagged (finishEntry q s).events ∧ CountersInRange (finishEntry q s).counters := by
  simp -implicitDefEqProofs [finishEntry, h]

@[simp] theorem eventsSound_afterCapture (w : HostWrite) (m : Mode) :
    RepeatsFlagged (afterCapture w m s).events ∧ CountersInRange (afterCapture w m s).counters := by
  simp only [afterCapture]
  (repeat' split) <;> simp -implicitDefEqProofs [h, degrade]

@[simp] theorem eventsSound_stallWrite (w : HostWrite) :
    RepeatsFlagged (stallWrite w s).events ∧ CountersInRange (stallWrite w s).counters := by
  simp only [stallWrite]
  (repeat' split) <;> simp -implicitDefEqProofs [h]

@[simp] theorem eventsSound_openOrStall (w : HostWrite) (id : WindowId) (m : Mode) :
    RepeatsFlagged (openOrStall w id m s).events ∧ CountersInRange (openOrStall w id m s).counters := by
  simp only [openOrStall]
  (repeat' split) <;> simp -implicitDefEqProofs [h]

@[simp] theorem eventsSound_captureWrite (w : HostWrite) (id : WindowId) (m : Mode) :
    RepeatsFlagged (captureWrite w id m s).events ∧ CountersInRange (captureWrite w id m s).counters := by
  simp only [captureWrite]
  (repeat' split) <;> simp -implicitDefEqProofs [h]

@[simp] theorem eventsSound_grantWrite (w : HostWrite) :
    RepeatsFlagged (grantWrite w s).events ∧ CountersInRange (grantWrite w s).counters := by
  simp only [grantWrite]
  (repeat' split) <;> simp -implicitDefEqProofs [h, degrade]

@[simp] theorem eventsSound_grantHost :
    RepeatsFlagged (grantHost s).events ∧ CountersInRange (grantHost s).counters := by
  simp only [grantHost]
  (repeat' split) <;> simp -implicitDefEqProofs [h]

@[simp] theorem eventsSound_arbitrate :
    RepeatsFlagged (arbitrate s).events ∧ CountersInRange (arbitrate s).counters :=
  arbitrate_keeps (P := EventsSound)
    (fun u hu => grantOnce_keeps (P := EventsSound) u (eventsSound_grantHost (s := u))
      (fun hu => by rw [eventsSound_iff] at hu ⊢; simpa using hu) hu) s h

end

/-- Clearing events under a mask clears a flag and its REPEAT together (R191). -/
theorem repeatsFlagged_clear (u : EventUnit) (mask : BitVec 12) (h : RepeatsFlagged u) :
    RepeatsFlagged (u.clear mask) := by
  rw [repeatsFlagged_iff] at h ⊢
  intro k hk
  simp only [EventUnit.clear, BitVec.getLsbD_and, Bool.and_eq_true]
  exact fun ⟨hrep, hmask⟩ => ⟨h k hk hrep, hmask⟩

theorem eventsSound_reset : EventsSound State.reset :=
  (eventsSound_iff _).mpr ⟨(repeatsFlagged_iff _).mpr (by decide), countersInRange_zero⟩

section
variable {s : State} (h : RepeatsFlagged s.events ∧ CountersInRange s.counters)
include h

theorem eventsSound_receiveSymbol (sym : Symbol) :
    RepeatsFlagged (receiveSymbol sym s).events ∧ CountersInRange (receiveSymbol sym s).counters := by
  have hjudge : ∀ b u, CountersInRange u.counters → CountersInRange (judgeFrame b u).counters := by
    intro b u hu
    unfold judgeFrame
    (repeat' split) <;> simp [hu]
  have hframe : ∀ u, CountersInRange u.counters → CountersInRange (frameSymbol sym u).counters := by
    intro u hu
    unfold frameSymbol
    (repeat' split) <;> simp -implicitDefEqProofs [hu, hjudge]
  unfold receiveSymbol
  split
  · exact h
  · split
    · exact h
    · simp -implicitDefEqProofs [h, hframe]

theorem eventsSound_enterUp (f : HelloFrame) :
    RepeatsFlagged (enterUp f s).events ∧ CountersInRange (enterUp f s).counters := by
  unfold enterUp
  cases hr : s.part.role <;> simp -implicitDefEqProofs [hr, h]

theorem eventsSound_acceptHello (f : HelloFrame) :
    RepeatsFlagged (acceptHello f s).events ∧ CountersInRange (acceptHello f s).counters := by
  unfold acceptHello
  dsimp only
  split
  · exact eventsSound_enterUp (by split <;> simp [h]) f
  · split <;> simp [h]

theorem eventsSound_judgeHello (f : HelloFrame) :
    RepeatsFlagged (judgeHello f s).events ∧ CountersInRange (judgeHello f s).counters := by
  unfold judgeHello
  split
  · exact eventsSound_acceptHello h f
  · split
    · split <;> simp [h]
    · split
      · exact eventsSound_acceptHello (by simpa using h) f
      · exact h
    · exact h

theorem eventsSound_receiveHello (f : HelloFrame) :
    RepeatsFlagged (receiveHello f s).events ∧ CountersInRange (receiveHello f s).counters := by
  unfold receiveHello
  split
  · simp [h]
  · split
    · simp [h]
    · split
      · split
        · simpa using h
        · exact eventsSound_judgeHello (eventsSound_loseSession h _) f
      · exact eventsSound_judgeHello h f

/-- A soft reset clears every flag with its REPEAT (R195). -/
theorem eventsSound_softReset : RepeatsFlagged (softReset s).events ∧ CountersInRange (softReset s).counters := by
  have hdone : RepeatsFlagged (softResetDone s).events ∧ CountersInRange (softResetDone s).counters :=
    ⟨by simp [softResetDone, RepeatsFlagged, EventUnit.clearAll], by simp [softResetDone, h]⟩
  exact eventsSound_arbitrate hdone

end

/-- Every command raises and counts by the shared operations, clears events, or clears counters. -/
theorem eventsSound_kept : KeptByCommands EventsSound := by
  constructor
  all_goals simp only [eventsSound_iff]
  case powerReset => exact fun _ _ _ => eventsSound_reset
  case softReset => exact fun s h => eventsSound_softReset h
  case clearEvents => intro args s h; exact ⟨repeatsFlagged_clear _ _ h.1, h.2⟩
  case setEnables => exact fun args s h => h
  case clearCounters => exact fun args s h => ⟨h.1, countersInRange_zero⟩
  case receiveSymbol => exact fun sym s h => eventsSound_receiveSymbol h sym
  case endBurst =>
    intro w c v s t h _ _ hend
    obtain rfl | ⟨_, _, rfl⟩ := endBurst_cases w c v s t hend
    · exact eventsSound_arbitrate (by simpa using h)
    · refine eventsSound_arbitrate ?_
      unfold finishBurst
      dsimp only
      split <;> simp [h]
  case applyTake =>
    intro s h
    unfold applyTake takeEntry
    (repeat' split) <;> simp -implicitDefEqProofs [h, applyTable, applyGeneration]
  case endHostWrite =>
    intro s h
    simp only [endHostWrite]
    (repeat' split) <;> simp -implicitDefEqProofs [h]
  case setRole =>
    intro args s h
    unfold setRoleEffect changeRole leaveRole leavePrimary
    (repeat' split) <;> simp -implicitDefEqProofs [h, arriveSecondary]
  case promote =>
    intro args s h
    simp only [promoteEffect]
    (repeat' split) <;> simp -implicitDefEqProofs [h]
  case commitTable =>
    intro args s h
    simp only [commitTableEffect]
    (repeat' split) <;> simp -implicitDefEqProofs [h]
  case linkDisable =>
    intro args s h
    simp only [linkDisableEffect]
    (repeat' split) <;> simp -implicitDefEqProofs [h]
  case startResync =>
    intro args s h
    simp only [startResyncEffect]
    (repeat' split) <;> simp -implicitDefEqProofs [h]
  case endHostRead =>
    intro s h
    simp only [endHostRead]
    (repeat' split) <;> simp -implicitDefEqProofs [h]
  case endApply =>
    intro s h
    simp only [endApply]
    (repeat' split) <;> simp -implicitDefEqProofs [h]
  case stallExpiry =>
    intro s h
    simp only [stallExpiry]
    (repeat' split) <;> simp -implicitDefEqProofs [h]
  case holdExpiry =>
    intro s h
    simp only [holdExpiry]
    (repeat' split) <;> simp -implicitDefEqProofs [h]
  case ackExpiry =>
    intro s h
    simp only [ackExpiry]
    (repeat' split) <;> simp -implicitDefEqProofs [h]
  case silenceExpiry =>
    intro s h
    simp only [silenceExpiry]
    (repeat' split) <;> simp -implicitDefEqProofs [h]
  case presentTransaction =>
    intro txn s h
    simp only [presentTransaction]
    (repeat' split) <;> simp -implicitDefEqProofs [h]
  case copyRequest =>
    intro s h
    simp only [copyRequest]
    (repeat' split) <;> simp -implicitDefEqProofs [h]
  case represent => intro s h; simp -implicitDefEqProofs [h]
  case receiveHello =>
    intro f s _ _ h
    exact eventsSound_receiveHello h f
  case receiveBye =>
    intro s _ h
    unfold receiveBye
    split <;> simp [h]
  case receiveLink =>
    intro f s h
    simp only [receiveLink, peerReject, takeLink]
    (repeat' split) <;> simp -implicitDefEqProofs [h]
  case receiveData =>
    intro f s _ h
    simp only [receiveData, askNak]
    (repeat' split) <;> simp -implicitDefEqProofs [h]
  case offerCommit => exact fun s h => eventsSound_offerCommit h
  case offerSynced => exact fun s h => eventsSound_offerSynced h
  case endPromotion => exact fun s h => eventsSound_endPromotion h
  all_goals intros; simpa

/-- Settles O52: each of the three conditions is kept by every command. -/
theorem registersStaySound : Obligations.RegistersStaySound := by
  rintro s t ⟨hmem, hevents, hparams⟩ hstep
  exact ⟨step_keeps canonical_kept hmem hstep, step_keeps eventsSound_kept hevents hstep,
    step_keeps paramsSound_kept hparams hstep⟩

end Sys2Proof.Proofs
end

section
/-! The banks: normal form, validity against MEMPAGES, and a pending commit (R25, R27, R32, R34, R40). -/

namespace Sys2Proof.Proofs

open Sys2Proof.Machine

/-! ## Validity and normal form of a bank -/

theorem mem_windowIds (i : WindowId) : i ∈ windowIds := List.mem_finRange i

/-- A bank fits a page count exactly when every present record ends within it (R40). -/
theorem bankFits_iff (b : Bank) (pages : Nat) :
    bankFits b pages = true ↔ ∀ i : WindowId, b[i].present = true → b[i].basePage + b[i].pageCount ≤ pages := by
  simp only [bankFits, List.all_eq_true, mem_windowIds, forall_const, Bool.or_eq_true, Bool.not_eq_true',
    decide_eq_true_eq, ← Bool.not_eq_true]
  exact forall_congr' fun i => imp_iff_not_or.symm

theorem disjointFrom_iff (v w : Window) :
    v.disjointFrom w = true ↔ (v.present = true → w.present = true →
      v.basePage + v.pageCount ≤ w.basePage ∨ w.basePage + w.pageCount ≤ v.basePage) := by
  unfold Window.disjointFrom
  cases v.present <;> cases w.present <;> simp

/-- A bank is valid exactly when it fits and no two present records share a page (R27). -/
theorem bankValid_iff (b : Bank) (pages : Nat) :
    bankValid b pages = true ↔
      (∀ i : WindowId, b[i].present = true → b[i].basePage + b[i].pageCount ≤ pages) ∧
      (∀ i j : WindowId, i ≠ j → b[i].present = true → b[j].present = true →
        b[i].basePage + b[i].pageCount ≤ b[j].basePage ∨ b[j].basePage + b[j].pageCount ≤ b[i].basePage) := by
  have hsplit : bankValid b pages = (bankFits b pages &&
      windowIds.all (fun i => windowIds.all (fun j => decide (i = j) || b[i].disjointFrom b[j]))) := rfl
  rw [hsplit, Bool.and_eq_true, bankFits_iff]
  refine and_congr_right fun _ => ?_
  simp only [List.all_eq_true, mem_windowIds, forall_const, Bool.or_eq_true, decide_eq_true_eq, disjointFrom_iff]
  exact forall₂_congr fun i j => or_iff_not_imp_left

@[simp] theorem normal_of_present (w : Window) (h : w.present = true) : w.normal = w := by simp [Window.normal, h]

@[simp] theorem normal_present (w : Window) : w.normal.present = w.present := by
  unfold Window.normal
  split <;> simp_all [Window.absent]

@[simp] theorem normal_normal (w : Window) : w.normal.normal = w.normal := by
  unfold Window.normal
  split
  · simp_all
  · rfl

theorem bankNormal_get (b : Bank) (i : WindowId) : (bankNormal b)[i] = b[i].normal := by simp [bankNormal]

theorem bankHeld_bankNormal (b : Bank) : bankHeld (bankNormal b) := by
  intro i
  rw [bankNormal_get, normal_normal]

/-- The normal form of absent records changes nothing that validity looks at. -/
theorem bankValid_bankNormal (b : Bank) (pages : Nat) (h : bankValid b pages = true) :
    bankValid (bankNormal b) pages = true := by
  rw [bankValid_iff] at h ⊢
  obtain ⟨hfits, hdisjoint⟩ := h
  simp only [bankNormal_get, normal_present]
  constructor
  · intro i hi
    rw [normal_of_present _ hi]
    exact hfits i hi
  · intro i j hij hi hj
    rw [normal_of_present _ hi, normal_of_present _ hj]
    exact hdisjoint i j hij hi hj

theorem bankHeld_set (b : Bank) (id : WindowId) (w : Window) (h : bankHeld b) : bankHeld (b.set id w.normal) := by
  intro i
  by_cases hi : id = i
  · simp [hi]
  · simpa [Vector.getElem_set, Fin.val_inj, hi] using h i

/-! ## What changes the window table and the role -/

@[simp] theorem completeCommit_table (s : State) :
    (completeCommit s).table = { active := s.table.staged, staged := s.table.staged, commitPending := false } := by
  simp [completeCommit]

/-- A pending commit whose TABLE append is offered completes or goes on waiting (R34, R35). -/
theorem offerCommit_cases (s : State) :
    offerCommit s = s ∨
      (s.table.commitPending = true ∧ 0 < s.journal.freeSlots ∧ offerCommit s = completeCommit s) := by
  unfold offerCommit
  split
  · rename_i h
    rw [Bool.and_eq_true, decide_eq_true_eq] at h
    exact .inr ⟨h.1, h.2, rfl⟩
  · exact .inl rfl

@[simp] theorem completePromotion_part (s : State) :
    (completePromotion s).part = { role := .primary, promotionPending := false, forced := !s.applyq.consistent } := by
  simp [completePromotion]

theorem endPromotion_cases (s : State) :
    endPromotion s = s ∨
      (s.part.promotionPending = true ∧ s.applyq.count = 0 ∧ endPromotion s = completePromotion s) := by
  unfold endPromotion
  split
  · rename_i h
    exact .inr ⟨h.1, h.2, rfl⟩
  · exact .inl rfl

/-- A take rejects the entry, asks for the memory port, or completes a control entry (R149). -/
theorem takeEntry_cases (e : DataFrame) (s : State) :
    takeEntry e s = finishEntry e.seq (rejectEntry s) ∨
    takeEntry e s = arbitrate (s.setApplyq { s.applyq with engine := .waiting e }) ∨
    (∃ records complete, e.content = .table records complete ∧ bankValid records s.params.memPages = true ∧
      takeEntry e s = finishEntry e.seq (applyTable records complete s)) ∨
    (∃ g, e.content = .generation g ∧ takeEntry e s = finishEntry e.seq (applyGeneration g s)) ∨
    (∃ g, e.content = .synced g ∧ takeEntry e s = finishEntry e.seq (applySynced g s)) := by
  unfold takeEntry
  split
  · exact .inl rfl
  · rename_i hvalid
    split
    · exact .inr (.inl rfl)
    · exact .inr (.inl rfl)
    · rename_i records complete heq
      refine .inr (.inr (.inl ⟨records, complete, heq, ?_, rfl⟩))
      simpa [heq, Content.validFor] using hvalid
    · rename_i g heq
      exact .inr (.inr (.inr (.inl ⟨g, heq, rfl⟩)))
    · rename_i g heq
      exact .inr (.inr (.inr (.inr ⟨g, heq, rfl⟩)))

/-- The queue without the entry that is taken from it (R149). -/
theorem applyTake_cases (s : State) :
    applyTake s = s ∨ ∃ e rest, s.applyq.engine = .idle ∧ s.applyq.queue = e :: rest ∧
      applyTake s = takeEntry e (s.setApplyq { s.applyq with queue := rest }) := by
  unfold applyTake
  split
  · exact .inr ⟨_, _, ‹_›, ‹_›, rfl⟩
  · exact .inl rfl

/-! ## The invariant -/

theorem banksSound_of_eq {s t : State} (ht : t.table = s.table) (hp : t.params = s.params)
    (hr : t.part.role = s.part.role) (h : BanksSound s) : BanksSound t := by
  unfold BanksSound
  rw [ht, hp, hr]
  exact h

theorem banksSound_completeCommit (s : State) (hpending : s.table.commitPending = true) (h : BanksSound s) :
    BanksSound (completeCommit s) := by
  obtain ⟨_, hstaged, _, hcommit⟩ := h
  exact ⟨by simpa using hstaged, by simpa using hstaged, by simpa using (hcommit hpending).2, by simp⟩

theorem banksSound_offerCommit (s : State) (h : BanksSound s) : BanksSound (offerCommit s) := by
  obtain heq | ⟨hpending, _, heq⟩ := offerCommit_cases s
  · exact heq.symm ▸ h
  · exact heq ▸ banksSound_completeCommit s hpending h

/-- A part that becomes PRIMARY with a commit pending was PRIMARY before. -/
theorem banksSound_endPromotion (s : State) (h : BanksSound s) : BanksSound (endPromotion s) := by
  obtain heq | ⟨_, _, heq⟩ := endPromotion_cases s
  · exact heq.symm ▸ h
  · obtain ⟨hactive, hstaged, hvalid, hcommit⟩ := h
    rw [heq]
    refine ⟨by simpa using hactive, by simpa using hstaged, by simpa using hvalid, fun hp => ⟨by simp, ?_⟩⟩
    simpa using (hcommit (by simpa using hp)).2

theorem banksSound_finishEntry (q : Seq) (s : State) (h : BanksSound s) : BanksSound (finishEntry q s) :=
  banksSound_endPromotion _ (banksSound_of_eq (by simp) (by simp) (by simp) h)

/-- A valid TABLE entry gives the active bank its records in normal form (R153). -/
theorem banksSound_applyTable (records : Bank) (complete : Bool) (s : State)
    (hv : bankValid records s.params.memPages = true) (h : BanksSound s) :
    BanksSound (applyTable records complete s) := by
  obtain ⟨_, hstaged, _, hcommit⟩ := h
  exact ⟨bankHeld_bankNormal records, hstaged, bankValid_bankNormal _ _ hv, hcommit⟩

theorem banksSound_applyTake (s : State) (h : BanksSound s) : BanksSound (applyTake s) := by
  obtain heq | ⟨e, rest, _, _, heq⟩ := applyTake_cases s
  · exact heq.symm ▸ h
  · rw [heq]
    generalize hu : s.setApplyq { s.applyq with queue := rest } = u
    have hbanks : BanksSound u := hu ▸ h
    obtain heq | heq | ⟨records, complete, _, hv, heq⟩ | ⟨g, _, heq⟩ | ⟨g, _, heq⟩ := takeEntry_cases e u
    · exact heq ▸ banksSound_finishEntry _ _ (banksSound_of_eq (by simp) (by simp) (by simp) hbanks)
    · exact heq ▸ banksSound_of_eq (by simp) (by simp) (by simp) hbanks
    · exact heq ▸ banksSound_finishEntry _ _ (banksSound_applyTable records complete u hv hbanks)
    · exact heq ▸ banksSound_finishEntry _ _ (banksSound_of_eq (by simp) (by simp) (by simp) hbanks)
    · exact heq ▸ banksSound_finishEntry _ _ (banksSound_of_eq (by simp) (by simp) (by simp) hbanks)

theorem banksSound_writeStagedWindow (args : List Byte) (s : State) (h : BanksSound s) :
    BanksSound (writeStagedWindowEffect args s).state := by
  obtain ⟨hactive, hstaged, hvalid, hcommit⟩ := h
  unfold writeStagedWindowEffect
  split
  · exact ⟨hactive, hstaged, hvalid, hcommit⟩
  · rename_i hpending
    split
    · exact ⟨hactive, hstaged, hvalid, hcommit⟩
    · dsimp only
      split
      · exact ⟨hactive, hstaged, hvalid, hcommit⟩
      · exact ⟨hactive, bankHeld_set _ _ _ hstaged, hvalid, fun hp => absurd hp hpending⟩

theorem banksSound_commitTable (args : List Byte) (s : State) (h : BanksSound s) :
    BanksSound (commitTableEffect args s).state := by
  unfold commitTableEffect
  split
  · exact h
  · rename_i hsecondary
    split
    · exact h
    · rename_i hpending
      split
      · exact h
      · rename_i hinvalid
        obtain ⟨hactive, hstaged, hvalid, hcommit⟩ := h
        have hok : bankValid s.table.staged s.params.memPages = true := by simpa using hinvalid
        split
        · exact ⟨hstaged, hstaged, hok, fun hp => absurd hp hpending⟩
        · rename_i hdetached
          have hprimary : s.part.role = .primary := by
            cases hr : s.part.role <;> simp_all
          exact banksSound_offerCommit _ ⟨hactive, hstaged, hvalid, fun _ => ⟨hprimary, hok⟩⟩

theorem params_put_memPages (p : Params) (id v : Nat) (h : id ≠ 0) : (p.put id v).memPages = p.memPages := by
  unfold Params.put
  split <;> simp_all

/-- MEMPAGES changes on a DETACHED part only, and to a value the active bank fits in (R40). -/
theorem banksSound_setConfig (args : List Byte) (s : State) (h : BanksSound s) :
    BanksSound (setConfigEffect args s).state := by
  unfold setConfigEffect
  dsimp only
  generalize (argByte args 0).toNat = id
  generalize (argWord args 1).toNat = v
  repeat' split
  case isFalse.isFalse.isFalse.isFalse hid hlock hrange hfit =>
    obtain ⟨hactive, hstaged, hvalid, hcommit⟩ := h
    by_cases h0 : id = 0
    · subst h0
      have hdetached : s.part.role = .detached := by simpa using hlock
      have hfits : bankFits s.table.active v = true := by simpa using hfit
      refine ⟨hactive, hstaged, ?_, fun hp => ?_⟩
      · rw [bankValid_iff] at hvalid ⊢
        exact ⟨(bankFits_iff _ _).mp hfits, hvalid.2⟩
      · have hprimary := (hcommit hp).1
        rw [hdetached] at hprimary
        cases hprimary
    · have hpages := params_put_memPages s.params id v h0
      refine ⟨hactive, hstaged, ?_, fun hp => ⟨(hcommit hp).1, ?_⟩⟩
      · exact hpages ▸ hvalid
      · exact hpages ▸ (hcommit hp).2
  all_goals exact h

theorem banksSound_setRole (args : List Byte) (s : State) (h : BanksSound s) :
    BanksSound (setRoleEffect args s).state := by
  unfold setRoleEffect
  repeat' split
  case h_2.isFalse.isFalse.isFalse.isFalse.isFalse.isFalse =>
    rename_i hpending _ _ _ _
    obtain ⟨hactive, hstaged, hvalid, _⟩ := h
    refine ⟨by simpa using hactive, by simpa using hstaged, by simpa using hvalid, fun hp => ?_⟩
    exact absurd (by simpa using hp) hpending
  case h_2.isFalse.isFalse.isFalse.isFalse.isFalse.isTrue =>
    exact banksSound_of_eq (by simp) (by simp) (by simp) h
  all_goals exact h

theorem banksSound_promote (args : List Byte) (s : State) (h : BanksSound s) :
    BanksSound (promoteEffect args s).state := by
  unfold promoteEffect
  repeat' split
  case h_2.isFalse.isFalse.isFalse.isFalse =>
    have hset : BanksSound (s.setPart { s.part with promotionPending := true }) := h
    dsimp only
    split
    · rename_i hcount
      rw [answer_state, ← endPromotion_of_drained _ rfl hcount]
      exact banksSound_endPromotion _ hset
    · exact hset
  all_goals exact h

theorem banksSound_reset (s : State) (n : Nat) : BanksSound (powerReset n s) := by
  have hreset : bankHeld State.reset.table.active ∧ bankValid State.reset.table.active 16384 = true := by
    decide
  exact ⟨hreset.1, hreset.1, hreset.2, fun hp => absurd hp Bool.false_ne_true⟩

theorem banksSound_kept : KeptByCommands BanksSound := by
  constructor
  case powerReset => exact fun n s _ => banksSound_reset s n
  case softReset =>
    rintro s ⟨hactive, hstaged, hvalid, _⟩
    rw [softReset_eq]
    exact ⟨by simpa [softResetDone] using hactive, by simpa [softResetDone] using hstaged,
      by simpa [softResetDone] using hvalid, by simp [softResetDone]⟩
  case writeStagedWindow => exact banksSound_writeStagedWindow
  case copyActiveToStaged =>
    rintro args s ⟨hactive, hstaged, hvalid, hcommit⟩
    unfold copyActiveToStagedEffect
    split
    · exact ⟨hactive, hstaged, hvalid, hcommit⟩
    · rename_i hpending
      exact ⟨hactive, hactive, hvalid, fun hp => absurd hp hpending⟩
  case commitTable => exact banksSound_commitTable
  case setConfig => exact banksSound_setConfig
  case setRole => exact banksSound_setRole
  case promote => exact banksSound_promote
  case endApply =>
    intro s h
    unfold endApply
    split
    · rename_i e _ _
      have hfinish := banksSound_finishEntry e.seq (freePort (s.setMem (s.mem.writeAll e.content.accesses))) h
      exact banksSound_of_eq (by simp) (by simp) (by simp) hfinish
    · exact h
  case endBurst =>
    intro w c v s t h _ _ hend
    obtain rfl | ⟨_, _, rfl⟩ := endBurst_cases w c v s t hend
    · exact banksSound_of_eq (by simp) (by simp) (by simp) h
    · exact banksSound_of_eq (by simp) (by simp) (by simp) h
  case applyTake => exact banksSound_applyTake
  case offerCommit => exact banksSound_offerCommit
  case endPromotion => exact banksSound_endPromotion
  all_goals
    intros
    refine banksSound_of_eq ?_ ?_ ?_ ‹BanksSound _›
    all_goals simp

/-- Settles O53: the commits, the TABLE entries, MEMPAGES and the role changes each keep the banks sound under the tests
they make first, and nothing else touches them. -/
theorem banksStaySound : Obligations.BanksStaySound :=
  fun _ _ h hstep => step_keeps banksSound_kept h hstep

end Sys2Proof.Proofs
end

section
/-! The apply queue: its count, its consecutive seqs, and the role it belongs to (R4, R147). -/

namespace Sys2Proof.Proofs

open Sys2Proof.Machine

/-! ## Consecutive sequence numbers -/

@[simp] theorem seqsBefore_zero (next : Seq) : seqsBefore next 0 = [] := rfl

@[simp] theorem seqsBefore_length (next : Seq) (n : Nat) : (seqsBefore next n).length = n := by simp [seqsBefore]

/-- The oldest of consecutive seqs. -/
theorem seqsBefore_succ (next : Seq) (n : Nat) :
    seqsBefore next (n + 1) = (next - BitVec.ofNat 12 (n + 1)) :: seqsBefore next n := by
  unfold seqsBefore
  rw [List.range_succ_eq_map, List.map_cons, List.map_map]
  congr 1
  · simp
  · refine List.map_congr_left fun i _ => ?_
    simp only [Function.comp_apply, Nat.succ_eq_add_one]
    bv_omega

/-- The newest of consecutive seqs. -/
theorem seqsBefore_next (next : Seq) (n : Nat) :
    seqsBefore (next + 1#12) (n + 1) = seqsBefore next n ++ [next] := by
  unfold seqsBefore
  rw [List.range_succ, List.map_append, List.map_singleton]
  congr 1
  · refine List.map_congr_left fun i _ => ?_
    bv_omega
  · congr 1
    bv_omega

/-- Consecutive seqs without the oldest ones are consecutive seqs. -/
theorem seqsBefore_drop (next : Seq) (n k : Nat) : (seqsBefore next n).drop k = seqsBefore next (n - k) := by
  induction n generalizing k with
  | zero => simp
  | succ n ih =>
    cases k with
    | zero => simp
    | succ k => rw [seqsBefore_succ, List.drop_succ_cons, ih, Nat.add_sub_add_right]

/-! ## The count and the engine -/

theorem applyCount_eq_zero (q : ApplyUnit) : q.count = 0 ↔ q.queue = [] ∧ q.engine = .idle := by
  unfold ApplyUnit.count
  by_cases h : q.engine = .idle <;> simp [h]

/-- The Apply Engine goes on to WRITING at a grant, and is IDLE after one only if it was before (R46, R151). -/
theorem grantEngine_applyq (s : State) :
    (grantEngine s).applyq = s.applyq ∨
      ∃ e, s.applyq.engine = .waiting e ∧ (grantEngine s).applyq = { s.applyq with engine := .writing e } := by
  unfold grantEngine
  split
  · exact .inr ⟨_, ‹_›, rfl⟩
  · split
    · exact .inl rfl
    · exact .inl rfl

/-! ## The invariant -/

/-- The parts of the apply queue that its soundness looks at. -/
theorem applySound_of {s t : State} (hq : t.applyq.queue = s.applyq.queue)
    (he : t.applyq.expected = s.applyq.expected) (hi : t.applyq.engine = .idle ↔ s.applyq.engine = .idle)
    (hr : t.part.role = s.part.role) (h : ApplySound s) : ApplySound t := by
  have hcount : t.applyq.count = s.applyq.count := by simp [ApplyUnit.count, hq, hi]
  unfold ApplySound
  rw [hcount, hq, he, hi, hr]
  exact h

theorem applySound_of_eq {s t : State} (hq : t.applyq = s.applyq) (hr : t.part.role = s.part.role)
    (h : ApplySound s) : ApplySound t :=
  applySound_of (by rw [hq]) (by rw [hq]) (by rw [hq]) hr h

/-- An apply queue with nothing in it is sound on every role. -/
theorem applySound_of_empty {t : State} (hq : t.applyq.queue = []) (he : t.applyq.engine = .idle) :
    ApplySound t := by
  simp [ApplySound, ApplyUnit.count, hq, he]

theorem applySound_grantEngine (s : State) (h : ApplySound s) : ApplySound (grantEngine s) := by
  obtain heq | ⟨e, hwaiting, heq⟩ := grantEngine_applyq s
  · exact applySound_of_eq heq (by simp) h
  · exact applySound_of (by rw [heq]) (by rw [heq]) (by rw [heq, hwaiting]; simp) (by simp) h

theorem applySound_arbitrate (s : State) (h : ApplySound s) : ApplySound (arbitrate s) :=
  arbitrate_keeps (P := ApplySound) (fun u => grantOnce_keeps (P := ApplySound) u
    (applySound_of_eq (by simp) (by simp)) (applySound_grantEngine u)) s h

/-- Only an empty apply queue lets a promotion complete, so the new PRIMARY has nothing queued (R182). -/
theorem applySound_endPromotion (s : State) (h : ApplySound s) : ApplySound (endPromotion s) := by
  obtain heq | ⟨_, hcount, heq⟩ := endPromotion_cases s
  · exact heq.symm ▸ h
  · obtain ⟨hqueue, hengine⟩ := (applyCount_eq_zero _).mp hcount
    exact heq ▸ applySound_of_empty (by simpa using hqueue) (by simpa using hengine)

/-- The entry under application leaves its slot. -/
theorem applySound_finishEntry (q : Seq) (s : State) (h : ApplySound s) : ApplySound (finishEntry q s) := by
  obtain ⟨hcount, hseqs, hwf, hrole⟩ := h
  refine applySound_endPromotion _ ⟨le_trans ?_ hcount, hseqs, hwf, fun hr => ⟨(hrole hr).1, rfl⟩⟩
  simp [completeEntry, ApplyUnit.count, pendLink]

/-- A take moves the oldest queued entry to the engine or through it. -/
theorem applySound_applyTake (s : State) (h : ApplySound s) : ApplySound (applyTake s) := by
  obtain heq | ⟨e, rest, hidle, hqueue, heq⟩ := applyTake_cases s
  · exact heq.symm ▸ h
  · obtain ⟨hcount, hseqs, hwf, hrole⟩ := h
    have hsecondary : s.part.role = .secondary := by
      by_contra hr
      simp [hqueue] at hrole
      exact hr hrole
    rw [hqueue, List.map_cons, List.length_cons, seqsBefore_succ] at hseqs
    have hrest : rest.map (fun f => f.seq) = seqsBefore s.applyq.expected rest.length := (List.cons.inj hseqs).2
    have hlen : rest.length + 1 ≤ Config.applySlots := by simpa [ApplyUnit.count, hidle, hqueue] using hcount
    have hrestwf : ∀ f ∈ rest, f.content.wellFormed = true := fun f hf => hwf f (by simp [hqueue, hf])
    rw [heq]
    generalize hu : s.setApplyq { s.applyq with queue := rest } = u
    have htaken : ApplySound u := by
      subst hu
      exact ⟨by simp [ApplyUnit.count, hidle]; omega, hrest, hrestwf, fun hr => absurd hsecondary hr⟩
    obtain heq | heq | ⟨records, complete, _, _, heq⟩ | ⟨g, _, heq⟩ | ⟨g, _, heq⟩ := takeEntry_cases e u
    · refine heq ▸ applySound_finishEntry _ _ (applySound_of ?_ ?_ ?_ (by simp) htaken) <;> simp [rejectEntry]
    · subst hu
      refine heq ▸ applySound_arbitrate _ ⟨?_, hrest, hrestwf, fun hr => absurd hsecondary hr⟩
      simpa [ApplyUnit.count] using hlen
    · refine heq ▸ applySound_finishEntry _ _ (applySound_of ?_ ?_ ?_ (by simp) htaken) <;> simp [applyTable]
    · refine heq ▸ applySound_finishEntry _ _ (applySound_of ?_ ?_ ?_ (by simp) htaken) <;> simp [applyGeneration]
    · refine heq ▸ applySound_finishEntry _ _ (applySound_of ?_ ?_ ?_ (by simp) htaken) <;>
        (unfold applySynced; split <;> simp)

/-- Adoption discards the queued entries and keeps the one under application (R159). -/
theorem applySound_adopt (f : HelloFrame) (s : State) (h : ApplySound s) : ApplySound (adopt f s) := by
  obtain ⟨hcount, _, _, hrole⟩ := h
  refine ⟨?_, rfl, by simp [adopt], fun hr => ⟨rfl, (hrole hr).2⟩⟩
  simp only [adopt, ApplyUnit.count] at hcount ⊢
  simp
  split <;> simp [Config.applySlots]

/-- Acceptance takes the seq expected into a free slot (R140). -/
theorem applySound_acceptData (f : DataFrame) (s : State) (hwf : f.content.wellFormed = true)
    (hsecondary : s.part.role = .secondary) (hseq : f.seq = s.applyq.expected)
    (hslot : s.applyq.count < Config.applySlots) (h : ApplySound s) : ApplySound (acceptData f s) := by
  obtain ⟨_, hseqs, hqueued, _⟩ := h
  refine ⟨?_, ?_, ?_, fun hr => absurd hsecondary (by simpa using hr)⟩
  · simp only [acceptData, ApplyUnit.count] at hslot ⊢
    simp
    omega
  · simp [acceptData, hseqs, hseq, seqsBefore_next]
  · intro g hg
    simp only [acceptData, pendLink_frame, rearmNak_frame, State.setApplyq_applyq, List.mem_append,
      List.mem_singleton] at hg
    obtain hg | rfl := hg
    · exact hqueued g hg
    · exact hwf

theorem applySound_receiveData (f : DataFrame) (s : State) (hwf : f.content.wellFormed = true) (h : ApplySound s) :
    ApplySound (receiveData f s) := by
  unfold receiveData
  split
  · rename_i hup
    split
    · split
      · exact applySound_acceptData f s hwf hup.1 ‹_› ‹_› h
      · exact applySound_of_eq (by simp) (by simp) h
    · split
      · exact applySound_of_eq (by simp) (by simp) h
      · exact applySound_of_eq (by simp) (by simp) h
  · exact h

theorem applySound_receiveHello (f : HelloFrame) (s : State) (h : ApplySound s) : ApplySound (receiveHello f s) := by
  have hjudge : ∀ u, ApplySound u → ApplySound (judgeHello f u) := by
    intro u hu
    unfold judgeHello
    split
    · exact applySound_of_eq (by simp) (by simp) hu
    · split
      · split
        · exact hu
        · exact applySound_of_eq (by simp) (by simp) hu
      · split
        · exact applySound_of_eq (by simp) (by simp) (applySound_adopt f u hu)
        · exact hu
      · exact hu
  unfold receiveHello
  split
  · exact applySound_of_eq (by simp) (by simp) h
  · split
    · exact applySound_of_eq (by simp) (by simp) h
    · split
      · split
        · exact applySound_of_eq (by simp) (by simp) h
        · exact hjudge _ (applySound_of_eq (by simp) (by simp) h)
      · exact hjudge s h

/-- A part leaves SECONDARY with an empty apply queue, and a part of another role has none (R177). -/
theorem applySound_setRole (args : List Byte) (s : State) (h : ApplySound s) :
    ApplySound (setRoleEffect args s).state := by
  unfold setRoleEffect
  repeat' split
  case h_2.isFalse.isFalse.isFalse.isFalse.isFalse.isFalse =>
    rename_i r _ _ _ _ hdrained _ hrole
    have hempty : s.applyq.queue = [] ∧ s.applyq.engine = .idle := by
      by_cases hs : s.part.role = .secondary
      · by_contra hne
        exact hdrained ⟨hs, fun hr => hrole (hr.trans hs.symm), fun hc => hne ((applyCount_eq_zero _).mp hc)⟩
      · exact h.2.2.2 hs
    refine applySound_of_empty ?_ ?_ <;>
      (cases r <;> simp [changeRole, arriveSecondary, hempty.1, hempty.2])
  case h_2.isFalse.isFalse.isFalse.isFalse.isFalse.isTrue =>
    exact applySound_of_eq (by simp) (by simp) h
  all_goals exact h

theorem applySound_promote (args : List Byte) (s : State) (h : ApplySound s) :
    ApplySound (promoteEffect args s).state := by
  unfold promoteEffect
  repeat' split
  case h_2.isFalse.isFalse.isFalse.isFalse =>
    have hset : ApplySound (s.setPart { s.part with promotionPending := true }) := h
    dsimp only
    split
    · rename_i hcount
      rw [answer_state, ← endPromotion_of_drained _ rfl hcount]
      exact applySound_endPromotion _ hset
    · exact hset
  all_goals exact h

/-- A soft reset empties the queued list; the engine keeps the entry it writes (R161). -/
theorem applySound_softReset (s : State) (h : ApplySound s) : ApplySound (softReset s) := by
  obtain ⟨_, _, _, hrole⟩ := h
  refine applySound_arbitrate _ ⟨?_, ?_, ?_, fun hr => ⟨?_, ?_⟩⟩
  · simp only [ApplyUnit.count, Config.applySlots]
    simp
    split <;> simp
  · simp
  · simp
  · simp
  · simpa [softResetDone] using (hrole (by simpa [softResetDone] using hr)).2

theorem applySound_kept : KeptByCommands ApplySound := by
  constructor
  case powerReset => exact fun _ _ _ => applySound_of_empty rfl rfl
  case softReset => exact applySound_softReset
  case setRole => exact applySound_setRole
  case promote => exact applySound_promote
  case presentTransaction =>
    intro txn s h
    unfold presentTransaction
    split
    · exact applySound_arbitrate _ h
    · exact h
  case endHostRead =>
    intro s h
    unfold endHostRead
    split
    · exact applySound_arbitrate _ h
    · exact h
  case endHostWrite =>
    intro s h
    unfold endHostWrite
    split
    · exact applySound_arbitrate _ (by split <;> exact h)
    · exact h
  case represent => exact fun s h => applySound_arbitrate _ (applySound_of_eq (by simp) (by simp) h)
  case endApply =>
    intro s h
    unfold endApply
    split
    · exact applySound_arbitrate _ (applySound_finishEntry _ _ h)
    · exact h
  case endBurst =>
    intro w c v s t h _ _ hend
    obtain rfl | ⟨_, _, rfl⟩ := endBurst_cases w c v s t hend
    · exact applySound_arbitrate _ h
    · exact applySound_arbitrate _ (applySound_of_eq (by simp) (by simp) h)
  case applyTake => exact applySound_applyTake
  case copyRequest =>
    intro s h
    unfold copyRequest
    split
    · split
      · exact applySound_arbitrate _ h
      · exact h
    · exact h
  case endPromotion => exact applySound_endPromotion
  case receiveHello => exact fun f s _ _ h => applySound_receiveHello f s h
  case receiveData => exact fun f s hwf h => applySound_receiveData f s hwf h
  all_goals
    intros
    refine applySound_of_eq ?_ ?_ ‹ApplySound _›
    all_goals simp

/-- Settles O58: acceptance, the take, completion, adoption and the role changes each keep the queue's structure, and
nothing else touches it. -/
theorem applyQueueStaysSound : Obligations.ApplyQueueStaysSound :=
  fun _ _ h hstep => step_keeps applySound_kept h hstep

end Sys2Proof.Proofs
end

section
/-! Holds: the hold mark in the journal, HOLDING, the hold timer and the host's held write (R1, R80, R81, R82). -/

namespace Sys2Proof.Proofs

open Sys2Proof.Machine

/-! ## The newest entry -/

/-- A change of the newest entry, spelt with the entries before it. -/
theorem mapNewest_eq (f : Entry → Entry) (es : List Entry) :
    mapNewest f es = es.dropLast ++ (es.getLast?.map f).toList := by
  induction es with
  | nil => rfl
  | cons e es ih =>
    cases es with
    | nil => rfl
    | cons d ds =>
      rw [mapNewest, ih]
      simp

/-- A change of the newest entry that leaves a function's value alone leaves the function's values alone. -/
theorem map_mapNewest {α : Type} (g : Entry → α) (f : Entry → Entry) (h : ∀ e, g (f e) = g e) (es : List Entry) :
    (mapNewest f es).map g = es.map g := by
  induction es with
  | nil => rfl
  | cons e es ih =>
    cases es with
    | nil => simp [mapNewest, h]
    | cons d ds => simp only [mapNewest, List.map_cons, ih]

/-! ## The hold marks of the journal -/

/-- The hold marks of the entries, oldest first (R1). -/
def marks (j : Journal) : List Bool := j.entries.map (fun e => e.held)

theorem marks_any (j : Journal) : j.entries.any (fun e => e.held) = (marks j).any id := by
  simp [marks, List.any_map]

theorem marks_count (j : Journal) : (j.entries.filter (fun e => e.held)).length = (marks j).countP id := by
  rw [marks, List.countP_map, List.countP_eq_length_filter]
  rfl

@[simp] theorem seal_marks (s : State) : marks (sealOpen s).journal = marks s.journal := by
  simp [marks, sealOpen_journal, Function.comp_def]

@[simp] theorem pushEntry_marks (c : Content) (st : EntryState) (s : State) :
    marks (pushEntry c st s).journal = marks s.journal ++ [false] := by
  simp [marks, pushEntry_journal]

@[simp] theorem openEntry_marks (r : Run) (s : State) :
    marks (openEntry r s).journal = marks s.journal ++ [false] := by
  rw [openEntry_journal, pushEntry_marks]

@[simp] theorem append_marks (c : Content) (s : State) :
    marks (append c s).journal = marks s.journal ++ [false] := by
  simp [marks, append_journal, Function.comp_def]

@[simp] theorem heldRewindTaken_marks (j : Journal) : marks (heldRewindTaken j) = marks j := by
  unfold heldRewindTaken marks
  split
  · rfl
  · dsimp only
    generalize (if seqPrecedes _ j.oldest = true then j.oldest else _) = q
    split
    · rfl
    · simp [Function.comp_def]

@[simp] theorem rewind_marks (m : Seq) (s : State) : marks (rewind m s).journal = marks s.journal := by
  rw [rewind_journal]
  split <;> simp [marks, Function.comp_def]

@[simp] theorem takeHeldRewind_marks (s : State) : marks (takeHeldRewind s).journal = marks s.journal := by
  rw [takeHeldRewind_eq, State.setJournal_journal, heldRewindTaken_marks]

@[simp] theorem requestRewind_marks (m : Seq) (s : State) : marks (requestRewind m s).journal = marks s.journal := by
  unfold requestRewind
  split
  · rfl
  · exact rewind_marks m s

@[simp] theorem abortFrame_marks (s : State) : marks (abortFrame s).journal = marks s.journal := by
  rw [abortFrame_journal]
  split <;> simp

@[simp] theorem leaveUp_marks (r : LossReason) (s : State) : marks (leaveUp r s).journal = marks s.journal := by
  simp only [leaveUp]
  split <;> simp

@[simp] theorem loseSession_marks (r : LossReason) (s : State) :
    marks (loseSession r s).journal = marks s.journal := by
  simp [loseSession]

@[simp] theorem enterClosing_marks (s : State) : marks (enterClosing s).journal = marks s.journal := by
  simp [enterClosing]

@[simp] theorem enterOff_marks (s : State) : marks (enterOff s).journal = marks s.journal := by simp [enterOff]

@[simp] theorem enterFault_marks (c : FaultCause) (s : State) : marks (enterFault c s).journal = marks s.journal := by
  simp only [enterFault]
  split <;> simp

@[simp] theorem restartSession_marks (s : State) : marks (restartSession s).journal = marks s.journal := by
  unfold restartSession
  split <;> simp

/-- An offered SYNCED append adds an entry without a mark, or nothing. -/
theorem offerSynced_marks (s : State) : ∃ k, marks (offerSynced s).journal = marks s.journal ++ List.replicate k false := by
  unfold offerSynced
  split
  · exact ⟨1, by simp⟩
  · exact ⟨0, by simp⟩

/-! ## The invariant and the parts it looks at -/

theorem holdSound_iff (s : State) :
    HoldSound s ↔ s.hold.holding = (marks s.journal).any id ∧ (marks s.journal).countP id ≤ 1 ∧
      s.hold.timer.isSome = s.hold.holding ∧
      (s.hold.holding = true → writePerformed s = true) ∧ (hostHeld s = true → s.hold.holding = true) := by
  unfold HoldSound
  rw [marks_any, marks_count]

/-- Entries without a mark, and a host port that keeps its state, leave the hold as it is. -/
theorem holdSound_of_unmarked {s t : State} (k : Nat) (hm : marks t.journal = marks s.journal ++ List.replicate k false)
    (hh : t.hold = s.hold) (hs : t.host.state = s.host.state) (h : HoldSound s) : HoldSound t := by
  rw [holdSound_iff] at h ⊢
  have hw : writePerformed t = writePerformed s := by simp [writePerformed, hs]
  have hp : hostHeld t = hostHeld s := by simp [hostHeld, hs]
  rw [hm, hh, hw, hp]
  simpa [List.countP_replicate] using h

theorem holdSound_of_eq {s t : State} (hm : marks t.journal = marks s.journal) (hh : t.hold = s.hold)
    (hs : t.host.state = s.host.state) (h : HoldSound s) : HoldSound t :=
  holdSound_of_unmarked 0 (by simpa using hm) hh hs h

/-- A host port that is neither performing a write nor HELD before and after leaves the hold as it is. -/
theorem holdSound_of_idle_host {s t : State} (hm : marks t.journal = marks s.journal) (hh : t.hold = s.hold)
    (hs : writePerformed s = false) (ht : hostHeld t = false) (h : HoldSound s) : HoldSound t := by
  rw [holdSound_iff] at h ⊢
  obtain ⟨hany, hone, htimer, hperformed, _⟩ := h
  rw [hm, hh]
  refine ⟨hany, hone, htimer, fun hholding => ?_, fun hheld => ?_⟩
  · rw [hperformed hholding] at hs
    cases hs
  · rw [hheld] at ht
    cases ht

/-- No hold runs while the host port performs no write. -/
theorem not_holding_of_not_performed {s : State} (h : HoldSound s) (hs : writePerformed s = false) :
    s.hold.holding = false := by
  obtain ⟨_, _, _, hperformed, _⟩ := h
  cases hh : s.hold.holding with
  | false => rfl
  | true => rw [hperformed hh] at hs; cases hs

/-! ## The operations -/

@[simp] theorem endHold_hold (o : HoldOutcome) (s : State) :
    (endHold o s).hold = { holding := false, timer := none, last := o } := by simp [endHold]

/-- The end of a hold completes a HELD write (R82). -/
theorem endHold_host_of_held (o : HoldOutcome) (s : State) (w : HostWrite) (h : s.host.state = .held w) :
    (endHold o s).host = { state := .idle, completion := some .writeDone } := by
  simp [endHold, completeHeld, h, finishHost]

theorem endHold_host_of_not_held (o : HoldOutcome) (s : State) (h : ∀ w, s.host.state ≠ .held w) :
    (endHold o s).host = s.host := by
  unfold endHold completeHeld
  split
  · exact absurd ‹_› (h _)
  · rfl

/-- No write is HELD after the end of a hold. -/
theorem hostHeld_endHold (o : HoldOutcome) (s : State) : hostHeld (endHold o s) = false := by
  cases hs : s.host.state with
  | held w => simp [hostHeld, endHold_host_of_held o s w hs]
  | _ => simp [hostHeld, endHold_host_of_not_held o s (by simp [hs]), hs]

/-- A hold that ends completes the held write; no entry is left with a mark (R82, R83, R84, R85). -/
theorem holdSound_endHold (o : HoldOutcome) (s : State) (hm : (marks s.journal).any id = false) :
    HoldSound (endHold o s) := by
  have hnone : (marks s.journal).countP id = 0 := by
    rw [List.countP_eq_zero]
    simpa [List.any_eq_false] using hm
  rw [holdSound_iff]
  simp [hm, hnone, hostHeld_endHold]

theorem holdSound_raise (e : Event) (s : State) (h : HoldSound s) : HoldSound (raise e s) :=
  holdSound_of_eq rfl rfl rfl h

theorem holdSound_count (c : Counter) (s : State) (h : HoldSound s) : HoldSound (count c s) :=
  holdSound_of_eq rfl rfl rfl h

/-- A discard takes the mark with its entry and ends the hold (R19, R85). -/
theorem holdSound_discardJournal (s : State) (h : HoldSound s) : HoldSound (discardJournal s) := by
  simp only [discardJournal]
  split
  · exact holdSound_count _ _ (holdSound_raise _ _ (holdSound_endHold .abandoned _ rfl))
  · rename_i hnone
    rw [holdSound_iff] at h ⊢
    obtain ⟨hany, _, htimer, hperformed, hheld⟩ := h
    rw [← marks_any, Bool.eq_false_iff.mpr hnone] at hany
    exact ⟨hany, by simp [marks], htimer, hperformed, hheld⟩

/-- A stall has no part in a hold: before and after it the host port performs no write. -/
theorem holdSound_endStall (s : State) (h : HoldSound s) : HoldSound (endStall s) := by
  cases hs : s.host.state with
  | stalled w =>
    refine holdSound_of_idle_host (by simp) (by simp) (by simp [writePerformed, hs]) ?_ h
    simp [hostHeld, endStall, hs]
  | _ => simpa [endStall, hs] using h

theorem holdSound_represent (s : State) (h : HoldSound s) : HoldSound (represent s) := by
  unfold represent
  split
  · rename_i hs
    exact holdSound_of_idle_host (s := s) (by simp) (by simp) (by simp [writePerformed, hs]) (by simp [hostHeld]) h
  · exact h

theorem holdSound_append (c : Content) (s : State) (h : HoldSound s) : HoldSound (append c s) :=
  holdSound_of_unmarked 1 (by simp) (by simp) (by simp) h

theorem holdSound_offerSynced (s : State) (h : HoldSound s) : HoldSound (offerSynced s) := by
  obtain ⟨k, hk⟩ := offerSynced_marks s
  exact holdSound_of_unmarked k hk (by simp) (by simp) h

theorem holdSound_restart (r : RestartReason) (s : State) (h : HoldSound s) : HoldSound (restart r s) := by
  have hbegun : HoldSound (restartBegun r s) := by
    refine holdSound_of_unmarked 2 ?_ (by simp) (by simp) (holdSound_discardJournal s h)
    simp [marks, restartBegun_journal, discardJournal_journal, newEntry]
  rw [restart_eq]
  refine holdSound_endStall _ (holdSound_offerSynced _ ?_)
  exact holdSound_of_eq (by simp) (by simp) (by simp) hbegun

theorem holdSound_offerCommit (s : State) (h : HoldSound s) : HoldSound (offerCommit s) := by
  obtain heq | ⟨_, _, heq⟩ := offerCommit_cases s
  · exact heq.symm ▸ h
  · rw [heq]
    refine holdSound_offerSynced _ (holdSound_of_eq ?_ ?_ ?_ (holdSound_append (.table s.table.staged (allClean
      s.table.staged (identityRule s.table.active s.table.staged s.copy.states))) s h))
    all_goals simp

theorem holdSound_endPromotion (s : State) (h : HoldSound s) : HoldSound (endPromotion s) := by
  obtain heq | ⟨_, _, heq⟩ := endPromotion_cases s
  · exact heq.symm ▸ h
  · rw [heq]
    refine holdSound_raise _ _ (holdSound_restart .promote _ ?_)
    exact holdSound_of_eq (s := s) (by simp) (by simp) (by simp) h

theorem holdSound_finishEntry (q : Seq) (s : State) (h : HoldSound s) : HoldSound (finishEntry q s) :=
  holdSound_endPromotion _ (holdSound_of_eq (by simp) (by simp) (by simp) h)

/-- The marks of the entries released and of those kept. -/
theorem afterRelease_marks (j : Journal) (n : Seq) :
    marks j = (j.gone n).map (fun e => e.held) ++ marks (j.afterRelease n) := by
  simp only [marks, Journal.afterRelease, Journal.gone]
  rw [← List.map_append, List.takeWhile_append_dropWhile]

/-- A release ends the hold when it removes the entry with the mark (R16, R83). -/
theorem holdSound_release (n : Seq) (s : State) (h : HoldSound s) : HoldSound (release n s) := by
  simp only [release]
  split
  · exact h
  · rw [holdSound_iff] at h
    obtain ⟨hany, hone, htimer, hperformed, hheld⟩ := h
    rw [afterRelease_marks s.journal n] at hany hone
    refine holdSound_endStall _ ?_
    have hended : ∀ u v : State, HoldSound u → marks v.journal = marks u.journal → v.hold = u.hold →
        v.host = u.host → HoldSound v := fun u v hu hm hh hs => holdSound_of_eq hm hh (by rw [hs]) hu
    by_cases hgone : (s.journal.gone n).any (fun e => e.held) = true
    · have hkept : (marks (s.journal.afterRelease n)).any id = false := by
        rw [List.countP_append] at hone
        have hpos : 0 < ((s.journal.gone n).map (fun e => e.held)).countP id := by
          rw [List.countP_pos_iff]
          simpa using hgone
        have hzero : (marks (s.journal.afterRelease n)).countP id = 0 := by omega
        simpa [List.countP_eq_zero, List.any_eq_false] using hzero
      rw [if_pos hgone]
      refine hended _ _ (holdSound_endHold .released (s.setJournal (s.journal.afterRelease n)) hkept) ?_ ?_ ?_
      all_goals (split <;> simp)
    · rw [if_neg hgone]
      have hsame : HoldSound (s.setJournal (s.journal.afterRelease n)) := by
        have hnone : ((s.journal.gone n).map (fun e => e.held)).any id = false := by simpa using hgone
        rw [List.any_append, hnone, Bool.false_or] at hany
        rw [List.countP_append] at hone
        rw [holdSound_iff]
        exact ⟨hany, le_trans (Nat.le_add_left _ _) hone, htimer, hperformed, hheld⟩
      refine hended _ _ hsame ?_ ?_ ?_
      all_goals (split <;> simp)

/-! ## Captures and grants -/

/-- A write that is performed is one the Hold Unit may hold. -/
theorem holdSound_performWrite (w : HostWrite) (s : State) (h : HoldSound s) (hs : writePerformed s = false) :
    HoldSound (performWrite w s) := by
  have hidle := not_holding_of_not_performed h hs
  rw [holdSound_iff] at h ⊢
  obtain ⟨hany, hone, htimer, _, _⟩ := h
  refine ⟨hany, hone, htimer, fun _ => rfl, fun hheld => ?_⟩
  simp [hostHeld, performWrite] at hheld

/-- The hold is taken on the newest entry, none carrying a mark before (R81). -/
theorem holdSound_takeHold (s : State) (h : HoldSound s) (hidle : s.hold.holding = false)
    (hne : s.journal.entries ≠ []) (hw : writePerformed s = true) : HoldSound (takeHold s) := by
  rw [holdSound_iff] at h ⊢
  obtain ⟨hany, _, _, _, _⟩ := h
  have hnone : ∀ b ∈ (marks s.journal).dropLast, b = false := by
    rw [hidle, eq_comm, List.any_eq_false] at hany
    exact fun b hb => by simpa using hany b (List.dropLast_subset _ hb)
  have hmarks : marks (takeHold s).journal = (marks s.journal).dropLast ++ [true] := by
    simp [marks, takeHold, mapNewest_eq, List.getLast?_eq_some_getLast hne, List.map_dropLast]
  have hzero : ((marks s.journal).dropLast).countP id = 0 := by
    rw [List.countP_eq_zero]
    exact fun b hb => by simp [hnone b hb]
  rw [hmarks]
  refine ⟨by simp [takeHold], by simp [List.countP_append, hzero], by simp [takeHold], fun _ => hw, fun _ => rfl⟩

theorem holdSound_afterCapture (w : HostWrite) (m : Mode) (s : State) (h : HoldSound s)
    (hs : writePerformed s = false) (hne : s.journal.entries ≠ []) : HoldSound (afterCapture w m s) := by
  have hperformed := holdSound_performWrite w s h hs
  have hsealed : HoldSound (sealOpen (performWrite w s)) := holdSound_of_eq (by simp) (by simp) (by simp) hperformed
  have hidle := not_holding_of_not_performed h hs
  unfold afterCapture
  cases m with
  | async => exact hperformed
  | sync =>
    dsimp only
    split
    · exact holdSound_takeHold _ hsealed (by simpa using hidle) (by simpa [sealOpen_journal] using hne) rfl
    · exact holdSound_count _ _ (holdSound_raise _ _ hsealed)

theorem holdSound_stallWrite (w : HostWrite) (s : State) (h : HoldSound s) (hs : writePerformed s = false) :
    HoldSound (stallWrite w s) := by
  have hstalled : HoldSound (s.setHost { s.host with state := .stalled w }) :=
    holdSound_of_idle_host (s := s) (by simp) (by simp) hs (by simp [hostHeld]) h
  have hcounted := holdSound_count .hostStalls _ (holdSound_raise .hostStall _ hstalled)
  simp only [stallWrite]
  split
  · exact holdSound_represent _ (holdSound_restart .stall _ hcounted)
  · split <;> exact hcounted

theorem holdSound_openOrStall (w : HostWrite) (id : WindowId) (m : Mode) (s : State) (h : HoldSound s)
    (hs : writePerformed s = false) : HoldSound (openOrStall w id m s) := by
  unfold openOrStall
  split
  · refine holdSound_afterCapture w m _ ?_ (by simpa [writePerformed] using hs) ?_
    · exact holdSound_of_unmarked 1 (by simp) (by simp) (by simp) h
    · simp [openEntry_journal, pushEntry_journal]
  · exact holdSound_stallWrite w s h hs

/-- An OPEN entry is one of the journal's entries. -/
theorem entries_ne_nil_of_openRuns {j : Journal} {rs : List Run} (h : j.openRuns = some rs) : j.entries ≠ [] := by
  intro hnil
  simp [Journal.openRuns, hnil] at h

theorem holdSound_captureWrite (w : HostWrite) (id : WindowId) (m : Mode) (s : State) (h : HoldSound s)
    (hs : writePerformed s = false) : HoldSound (captureWrite w id m s) := by
  unfold captureWrite
  split
  · exact holdSound_openOrStall w id m s h hs
  · rename_i rs hopen
    split
    · rename_i rs' _
      have hne : mapNewest (fun e => { e with content := .write rs' }) s.journal.entries ≠ [] := by
        simp [mapNewest_eq, List.getLast?_eq_some_getLast (entries_ne_nil_of_openRuns hopen)]
      refine holdSound_afterCapture w m _ ?_ hs hne
      refine holdSound_of_eq (s := s) ?_ rfl rfl h
      exact map_mapNewest (fun e => e.held) (fun e => { e with content := .write rs' }) (fun _ => rfl) _
    · exact holdSound_openOrStall w id m _ (holdSound_of_eq (by simp) (by simp) (by simp) h) hs

theorem holdSound_grantWrite (w : HostWrite) (s : State) (h : HoldSound s) (hs : writePerformed s = false) :
    HoldSound (grantWrite w s) := by
  have hperformed := holdSound_performWrite w s h hs
  unfold grantWrite
  split
  · exact holdSound_count _ _ (holdSound_raise _ _ hperformed)
  · exact hperformed
  · exact holdSound_captureWrite w _ _ s h hs
  · exact holdSound_of_idle_host (s := s) (by simp [finishHost]) (by simp) hs (by simp [hostHeld, finishHost]) h

theorem holdSound_grantHost (s : State) (h : HoldSound s) : HoldSound (grantHost s) := by
  unfold grantHost
  split
  · rename_i hs
    exact holdSound_of_idle_host (s := s) rfl rfl (by simp [writePerformed, hs]) (by simp [hostHeld]) h
  · rename_i w plainly hs
    have hidle : writePerformed (s.setPort { s.port with lastGrant := .host }) = false := by
      simp [writePerformed, hs]
    dsimp only
    split
    · exact holdSound_performWrite w _ h hidle
    · exact holdSound_grantWrite w _ h hidle
  · exact h

theorem holdSound_arbitrate (s : State) (h : HoldSound s) : HoldSound (arbitrate s) :=
  arbitrate_keeps (P := HoldSound) (fun u => grantOnce_keeps (P := HoldSound) u
    (holdSound_grantHost u) (holdSound_of_eq (by simp) (by simp) (by simp))) s h

/-! ## The commands -/

theorem holdSound_softReset (s : State) (h : HoldSound s) : HoldSound (softReset s) := by
  have hhost : HoldSound (softResetHost (discardJournal s)) := by
    have hd := holdSound_discardJournal s h
    unfold softResetHost
    split
    · rename_i hs
      exact holdSound_of_idle_host (s := discardJournal s) rfl rfl (by simp [writePerformed, hs])
        (by simp [hostHeld]) hd
    · exact hd
  have hbegun : HoldSound (softResetBegun s) := by
    refine holdSound_of_eq ?_ ?_ ?_ hhost
    · simp [marks, softResetBegun_journal, discardJournal_journal]
    · simp
    · simp
  exact holdSound_arbitrate _ (holdSound_of_eq rfl rfl rfl (holdSound_offerSynced _ hbegun))

theorem holdSound_commitTable (args : List Byte) (s : State) (h : HoldSound s) :
    HoldSound (commitTableEffect args s).state := by
  unfold commitTableEffect
  repeat' split
  case isFalse.isFalse.isFalse.isFalse => exact holdSound_offerCommit _ h
  all_goals exact h

theorem holdSound_setRole (args : List Byte) (s : State) (h : HoldSound s) :
    HoldSound (setRoleEffect args s).state := by
  have hleave : HoldSound (leaveRole s) := by
    unfold leaveRole
    split
    · exact h
    · exact holdSound_endStall _ (holdSound_discardJournal s h)
    · exact h
  have hchange : ∀ r, HoldSound (changeRole r s) := by
    intro r
    cases r with
    | detached => exact hleave
    | secondary => exact hleave
    | primary => exact holdSound_restart .role _ hleave
  unfold setRoleEffect
  repeat' split
  case h_2.isFalse.isFalse.isFalse.isFalse.isFalse.isFalse => exact hchange _
  all_goals exact h

theorem holdSound_promote (args : List Byte) (s : State) (h : HoldSound s) :
    HoldSound (promoteEffect args s).state := by
  unfold promoteEffect
  repeat' split
  case h_2.isFalse.isFalse.isFalse.isFalse =>
    dsimp only
    split
    · rename_i hcount
      rw [answer_state, ← endPromotion_of_drained _ rfl hcount]
      exact holdSound_endPromotion _ h
    · exact h
  all_goals exact h

theorem holdSound_receiveHello (f : HelloFrame) (s : State) (h : HoldSound s) : HoldSound (receiveHello f s) := by
  have hplace : ∀ e u, HoldSound u → HoldSound (place e u) := by
    intro e u hu
    refine holdSound_of_eq (s := release e u) ?_ rfl rfl (holdSound_release e u hu)
    simp [marks, place, Function.comp_def]
  have henter : ∀ u, HoldSound u → HoldSound (enterUp f u) := by
    intro u hu
    cases hr : u.part.role with
    | primary => exact enterUp_of_primary f u hr ▸ hplace f.next (upSession u) hu
    | secondary => exact enterUp_of_secondary f u hr ▸ hu
    | detached => exact enterUp_of_detached f u hr ▸ hu
  have haccept : ∀ u, HoldSound u → HoldSound (acceptHello f u) := by
    intro u hu
    unfold acceptHello
    dsimp only
    split
    · exact henter _ (by split <;> exact hu)
    · split <;> exact hu
  have hjudge : ∀ u, HoldSound u → HoldSound (judgeHello f u) := by
    intro u hu
    unfold judgeHello
    split
    · exact haccept u hu
    · split
      · split
        · exact hu
        · exact holdSound_restart .join u hu
      · split
        · exact haccept _ hu
        · exact hu
      · exact hu
  have hlose := holdSound_of_eq (t := loseSession .peerHello s) (by simp) (by simp) (by simp) h
  unfold receiveHello
  split
  · exact holdSound_of_eq (by simp) (by simp) (by simp) h
  · split
    · exact holdSound_of_eq (by simp) (by simp) (by simp) h
    · split
      · split
        · exact holdSound_of_eq (by simp) (by simp) (by simp) h
        · exact hjudge _ hlose
      · exact hjudge s h

theorem holdSound_receiveLink (f : LinkFrame) (s : State) (h : HoldSound s) : HoldSound (receiveLink f s) := by
  unfold receiveLink
  split
  · split
    · unfold peerReject
      split
      · exact holdSound_restart .peerReject _ h
      · exact holdSound_of_eq (by simp) (by simp) (by simp) h
    · split
      · have hreleased := holdSound_release f.ack (s.setSender { s.sender with peerLimit := f.limit }) h
        simp only [takeLink]
        split
        · exact holdSound_of_eq (by simp) (by simp) (by simp) hreleased
        · exact hreleased
      · exact h
  · exact h

/-- The expiry clears the mark and ends the hold TIMEOUT (R84). -/
theorem holdSound_holdExpiry (s : State) (h : HoldSound s) : HoldSound (holdExpiry s) := by
  simp only [holdExpiry]
  split
  · refine holdSound_count _ _ (holdSound_raise _ _ (holdSound_endHold .timeout _ ?_))
    simp [marks, List.any_eq_false]
  · exact h

theorem holdSound_reset : HoldSound State.reset := by
  unfold HoldSound
  decide

theorem holdSound_kept : KeptByCommands HoldSound := by
  constructor
  case powerReset => exact fun n s _ => holdSound_of_eq (s := State.reset) rfl rfl rfl holdSound_reset
  case softReset => exact holdSound_softReset
  case commitTable => exact holdSound_commitTable
  case setRole => exact holdSound_setRole
  case promote => exact holdSound_promote
  case linkDisable =>
    intro args s h
    refine holdSound_of_eq ?_ (by simp) (by simp) h
    unfold linkDisableEffect
    cases s.session.state <;> simp [answer]
  case startResync =>
    intro args s h
    unfold startResyncEffect
    split
    · exact holdSound_restart .command s h
    · exact h
  case presentTransaction =>
    intro txn s h
    unfold presentTransaction
    split
    · rename_i hs
      exact holdSound_arbitrate _
        (holdSound_of_idle_host (s := s) rfl rfl (by simp [writePerformed, hs]) (by simp [hostHeld]) h)
    · exact h
  case endHostRead =>
    intro s h
    unfold endHostRead
    split
    · rename_i hs
      exact holdSound_arbitrate _
        (holdSound_of_idle_host (s := s) rfl rfl (by simp [writePerformed, hs]) (by simp [hostHeld, finishHost]) h)
    · exact h
  case endHostWrite =>
    intro s h
    unfold endHostWrite
    split
    · rename_i w _ hs
      refine holdSound_arbitrate _ ?_
      obtain ⟨hany, hone, htimer, _, _⟩ := h
      split
      · rename_i hholding
        exact ⟨hany, hone, htimer, fun _ => rfl, fun _ => hholding⟩
      · rename_i hidle
        exact ⟨hany, hone, htimer, fun hholding => absurd hholding hidle, fun hheld => absurd hheld (by simp [hostHeld, finishHost])⟩
    · exact h
  case represent => exact fun s h => holdSound_arbitrate _ (holdSound_represent s h)
  case endApply =>
    intro s h
    unfold endApply
    split
    · exact holdSound_arbitrate _ (holdSound_finishEntry _ _ h)
    · exact h
  case endBurst =>
    intro w c v s t h _ _ hend
    obtain rfl | ⟨_, _, rfl⟩ := endBurst_cases w c v s t hend
    · exact holdSound_arbitrate _ h
    · refine holdSound_arbitrate _ ?_
      have happended := holdSound_append (.copy (burstRun w c s.mem)) (burstFreed c s) h
      unfold finishBurst
      dsimp only
      split
      · exact holdSound_offerSynced _ happended
      · exact happended
  case applyTake =>
    intro s h
    obtain heq | ⟨e, rest, _, _, heq⟩ := applyTake_cases s
    · exact heq.symm ▸ h
    · rw [heq]
      generalize hu : s.setApplyq { s.applyq with queue := rest } = u
      have hhold : HoldSound u := hu ▸ h
      obtain heq | heq | ⟨records, complete, _, _, heq⟩ | ⟨g, _, heq⟩ | ⟨g, _, heq⟩ := takeEntry_cases e u
      · exact heq ▸ holdSound_finishEntry _ _ (holdSound_of_eq (by simp) (by simp) (by simp) hhold)
      · exact heq ▸ holdSound_arbitrate _ hhold
      · exact heq ▸ holdSound_finishEntry _ _ (holdSound_of_eq (by simp) (by simp) (by simp) hhold)
      · exact heq ▸ holdSound_finishEntry _ _ (holdSound_of_eq (by simp) (by simp) (by simp) hhold)
      · exact heq ▸ holdSound_finishEntry _ _ (holdSound_of_eq (by simp) (by simp) (by simp) hhold)
  case copyRequest =>
    intro s h
    unfold copyRequest
    split
    · split
      · exact holdSound_arbitrate _ h
      · exact h
    · exact h
  case offerCommit => exact holdSound_offerCommit
  case offerSynced => exact holdSound_offerSynced
  case endPromotion => exact holdSound_endPromotion
  case sealAge =>
    intro s h
    unfold sealAge
    split
    · exact holdSound_of_eq (by simp) (by simp) (by simp) h
    · exact h
  case stallExpiry =>
    intro s h
    unfold stallExpiry
    split
    · exact holdSound_restart .stall s h
    · exact h
  case holdExpiry => exact holdSound_holdExpiry
  case ackExpiry =>
    intro s h
    refine holdSound_of_eq ?_ (by simp) (by simp) h
    simp only [ackExpiry]
    (repeat' split) <;> simp
  case silenceExpiry =>
    intro s h
    refine holdSound_of_eq ?_ (by simp) (by simp) h
    unfold silenceExpiry
    split <;> simp
  case receiveHello => exact fun f s _ _ h => holdSound_receiveHello f s h
  case receiveBye =>
    intro s _ h
    refine holdSound_of_eq ?_ (by simp) (by simp) h
    unfold receiveBye
    split <;> simp
  case receiveLink => exact holdSound_receiveLink
  case endDataFrame =>
    intro s h
    refine holdSound_of_eq ?_ (by simp) (by simp) h
    have hsent : ∀ q e, (Entry.sent q e).held = e.held := by
      intro q e
      unfold Entry.sent
      split <;> rfl
    cases hd : sendingData s with
    | false => rw [endDataFrame_of_not_sending s hd]
    | true =>
      obtain ⟨q, bytes, hsending⟩ := (sendingData_iff s).mp hd
      rw [endDataFrame_journal s q bytes hsending, heldRewindTaken_marks]
      simp [marks, hsent, Function.comp_def]
  case endByeDisabled =>
    intro s h
    refine holdSound_of_eq ?_ (by simp) (by simp) h
    unfold endByeDisabled
    split <;> simp
  all_goals
    intros
    refine holdSound_of_eq ?_ ?_ ?_ ‹HoldSound _›
    all_goals simp

/-- Settles O55: the hold begins with its mark, its timer and its write, and each of its three ends takes them all
away; nothing else touches them. -/
theorem holdStaysSound : Obligations.HoldStaysSound :=
  fun _ _ h hstep => step_keeps holdSound_kept h hstep

end Sys2Proof.Proofs
end

section
/-! What a grant to the host can do: the cases of a captured write and of a host grant (R46 to R54, R62, R71). -/

namespace Sys2Proof.Proofs

open Sys2Proof.Machine

/-- The state in which the arbiter has granted the port to the host (R46). -/
def hostGranted (s : State) : State := s.setPort { s.port with lastGrant := .host }

/-- The state with the runs of the OPEN entry replaced (R63 to R65). -/
def mergedInto (rs : List Run) (s : State) : State :=
  s.setJournal { s.journal with
    entries := mapNewest (fun e => { e with content := .write rs }) s.journal.entries }

/-- The state in which a captured write that was not merged looks for a slot: what was OPEN is sealed (R66, R67). -/
def sealedForCapture (s : State) : State := if s.journal.openRuns.isSome then sealOpen s else s

/-- A captured write is merged, or enters a new entry, or stalls on a full journal (R62, R67, R71). -/
theorem captureWrite_cases (w : HostWrite) (i : WindowId) (m : Mode) (s : State) :
    (∃ rs rs', s.journal.openRuns = some rs ∧ coalesce rs i w = some rs' ∧
        captureWrite w i m s = afterCapture w m (mergedInto rs' s)) ∨
      (0 < (sealedForCapture s).journal.freeSlots ∧
        captureWrite w i m s = afterCapture w m (openEntry (w.toRun i) (sealedForCapture s))) ∨
      ((sealedForCapture s).journal.freeSlots = 0 ∧ captureWrite w i m s = stallWrite w (sealedForCapture s)) := by
  have hopen : ∀ u, (0 < u.journal.freeSlots ∧ openOrStall w i m u = afterCapture w m (openEntry (w.toRun i) u)) ∨
      (u.journal.freeSlots = 0 ∧ openOrStall w i m u = stallWrite w u) := by
    intro u
    unfold openOrStall
    by_cases hfree : 0 < u.journal.freeSlots
    · exact .inl ⟨hfree, if_pos hfree⟩
    · exact .inr ⟨by omega, if_neg hfree⟩
  unfold captureWrite sealedForCapture
  cases hruns : s.journal.openRuns with
  | none => exact .inr (hopen s)
  | some rs =>
    dsimp only
    cases hc : coalesce rs i w with
    | none => exact .inr (hopen (sealOpen s))
    | some rs' => exact .inl ⟨rs, rs', rfl, hc, rfl⟩

/-- A grant to the host: no request stands, a read is granted, or a write is performed plainly, captured or refused
(R46 to R54). -/
theorem grantHost_cases (s : State) :
    (hostRequests s = false ∧ grantHost s = s) ∨
      (∃ a p, s.host.state = .request (.read a) true p ∧ grantHost s =
        (s.setHost { s.host with state := .access (.read a) }).setPort { holder := .hostRead, lastGrant := .host }) ∨
      ∃ w p, s.host.state = .request (.write w) true p ∧
        (grantHost s = performWrite w (hostGranted s) ∨ grantHost s = degrade (performWrite w (hostGranted s)) ∨
          (∃ i, classify s w = .captured i ∧
            grantHost s = captureWrite w i s.table.active[i].mode (hostGranted s)) ∨
          (classify s w = .refused ∧
            grantHost s = finishHost .writeRefused (count .writesBlocked (raise .writeBlocked (hostGranted s))))) := by
  unfold grantHost
  split
  · rename_i a p hs
    exact .inr (.inl ⟨a, p, hs, rfl⟩)
  · rename_i w p hs
    refine .inr (.inr ⟨w, p, hs, ?_⟩)
    cases p with
    | true => exact .inl rfl
    | false =>
      rw [if_neg Bool.false_ne_true]
      unfold grantWrite
      have hclass : classify (s.setPort { s.port with lastGrant := .host }) w = classify s w := rfl
      rw [hclass]
      cases hc : classify s w with
      | plain degraded =>
        cases degraded with
        | true => exact .inr (.inl rfl)
        | false => exact .inl rfl
      | captured i => exact .inr (.inr (.inl ⟨i, rfl, rfl⟩))
      | refused => exact .inr (.inr (.inr ⟨rfl, rfl⟩))
  · rename_i hread hwrite
    refine .inl ⟨?_, rfl⟩
    unfold hostRequests
    split
    · rename_i t p hs
      cases t with
      | read a => exact absurd hs (hread a p)
      | write w => exact absurd hs (hwrite w p)
    · rfl

/-- What a stall leaves before its restart: the write STALLED, the event raised and counted (R71). -/
def stallBegun (w : HostWrite) (s : State) : State :=
  count .hostStalls (raise .hostStall (s.setHost { s.host with state := .stalled w }))

theorem stallWrite_eq (w : HostWrite) (s : State) :
    stallWrite w s =
      if s.params.stallTimeout = 0 then represent (restart .stall (stallBegun w s))
      else if s.params.stallTimeout = 255 then (stallBegun w s).setCapture { s.capture with stallTimer := none }
      else (stallBegun w s).setCapture { s.capture with stallTimer := some (100 * s.params.stallTimeout) } := rfl

@[simp] theorem hostGranted_frame (s : State) :
    (hostGranted s).inReset = s.inReset ∧ (hostGranted s).mgmt = s.mgmt ∧ (hostGranted s).events = s.events ∧
    (hostGranted s).counters = s.counters ∧ (hostGranted s).params = s.params ∧ (hostGranted s).table = s.table ∧
    (hostGranted s).part = s.part ∧ (hostGranted s).host = s.host ∧ (hostGranted s).mem = s.mem ∧
    (hostGranted s).port = { s.port with lastGrant := .host } ∧
    (hostGranted s).capture = s.capture ∧ (hostGranted s).hold = s.hold ∧ (hostGranted s).journal = s.journal ∧
    (hostGranted s).copy = s.copy ∧ (hostGranted s).session = s.session ∧ (hostGranted s).tx = s.tx ∧
    (hostGranted s).rx = s.rx ∧ (hostGranted s).sender = s.sender ∧ (hostGranted s).acker = s.acker ∧
    (hostGranted s).applyq = s.applyq ∧ (hostGranted s).pending = s.pending := by
  and_intros <;> rfl

@[simp] theorem mergedInto_frame (rs : List Run) (s : State) :
    (mergedInto rs s).inReset = s.inReset ∧ (mergedInto rs s).mgmt = s.mgmt ∧ (mergedInto rs s).events = s.events ∧
    (mergedInto rs s).counters = s.counters ∧ (mergedInto rs s).params = s.params ∧
    (mergedInto rs s).table = s.table ∧ (mergedInto rs s).part = s.part ∧ (mergedInto rs s).host = s.host ∧
    (mergedInto rs s).port = s.port ∧ (mergedInto rs s).mem = s.mem ∧ (mergedInto rs s).capture = s.capture ∧
    (mergedInto rs s).hold = s.hold ∧ (mergedInto rs s).copy = s.copy ∧ (mergedInto rs s).session = s.session ∧
    (mergedInto rs s).tx = s.tx ∧ (mergedInto rs s).rx = s.rx ∧ (mergedInto rs s).sender = s.sender ∧
    (mergedInto rs s).acker = s.acker ∧ (mergedInto rs s).applyq = s.applyq ∧
    (mergedInto rs s).pending = s.pending := by
  and_intros <;> rfl

@[simp] theorem sealedForCapture_frame (s : State) :
    (sealedForCapture s).inReset = s.inReset ∧ (sealedForCapture s).mgmt = s.mgmt ∧
    (sealedForCapture s).events = s.events ∧ (sealedForCapture s).counters = s.counters ∧
    (sealedForCapture s).params = s.params ∧ (sealedForCapture s).table = s.table ∧
    (sealedForCapture s).part = s.part ∧ (sealedForCapture s).host = s.host ∧ (sealedForCapture s).port = s.port ∧
    (sealedForCapture s).mem = s.mem ∧ (sealedForCapture s).hold = s.hold ∧ (sealedForCapture s).copy = s.copy ∧
    (sealedForCapture s).session = s.session ∧ (sealedForCapture s).tx = s.tx ∧ (sealedForCapture s).rx = s.rx ∧
    (sealedForCapture s).sender = s.sender ∧ (sealedForCapture s).acker = s.acker ∧
    (sealedForCapture s).applyq = s.applyq ∧ (sealedForCapture s).pending = s.pending := by
  simp only [sealedForCapture]; (repeat' split) <;> simp

@[simp] theorem stallBegun_frame (w : HostWrite) (s : State) :
    (stallBegun w s).inReset = s.inReset ∧ (stallBegun w s).mgmt = s.mgmt ∧ (stallBegun w s).params = s.params ∧
    (stallBegun w s).table = s.table ∧ (stallBegun w s).part = s.part ∧
    (stallBegun w s).host = { s.host with state := .stalled w } ∧ (stallBegun w s).port = s.port ∧
    (stallBegun w s).mem = s.mem ∧ (stallBegun w s).capture = s.capture ∧ (stallBegun w s).hold = s.hold ∧
    (stallBegun w s).journal = s.journal ∧ (stallBegun w s).copy = s.copy ∧
    (stallBegun w s).session = s.session ∧ (stallBegun w s).tx = s.tx ∧ (stallBegun w s).rx = s.rx ∧
    (stallBegun w s).sender = s.sender ∧ (stallBegun w s).acker = s.acker ∧
    (stallBegun w s).applyq = s.applyq ∧ (stallBegun w s).pending = s.pending := by
  simp [stallBegun]

end Sys2Proof.Proofs
end

section
/-! The session with its timers and the frame in transmission (R105, R111, R114, R121, R136, R143). -/

namespace Sys2Proof.Proofs

open Sys2Proof.Machine

/-! ## The condition with names for its parts -/

/-- The parts of `SessionSound`, by name. -/
structure SessionFacts (s : State) : Prop where
  silence : s.rx.silenceTimer.isSome = true ↔ s.session.state = .up
  status : s.acker.statusTimer.isSome = true ↔ s.session.state = .up ∧ s.part.role = .secondary
  ack : s.sender.ackTimer.isSome = true → s.session.state = .up ∧ s.part.role = .primary
  seeking : s.session.state = .seek → s.session.helloTimer.isSome = true
  hello : s.session.helloTimer.isSome = true → s.session.state = .seek ∨ s.session.state = .up
  seen : s.session.state = .up → s.session.seen = true
  data : sendingData s = true → s.session.state = .up ∧ s.part.role = .primary
  link : sendingLink s = true → s.session.state = .up ∧ s.part.role = .secondary
  disabled : s.tx.byeDue = some .disabled ∨ sendingKind s = some (.bye .disabled) → s.session.state = .closing
  fault : s.tx.byeDue = some .fault ∨ sendingKind s = some (.bye .fault) → s.session.state = .fault
  closing : s.session.state = .closing → (s.tx.byeDue = some .disabled ∨ sendingKind s = some (.bye .disabled))
  asked : s.tx.helloDue = true → s.session.state = .seek ∨ s.session.state = .up
  off : s.session.state = .off → s.tx.sending = none
  promotion : s.part.promotionPending = true → s.session.state = .off
  detached : s.part.role = .detached → s.session.state = .off

theorem sessionSound_iff (s : State) : SessionSound s ↔ SessionFacts s :=
  ⟨fun ⟨h1, h2, h3, h4, h5, h6, h7, h8, h9, h10, h11, h12, h13, h14, h15⟩ =>
    ⟨h1, h2, h3, h4, h5, h6, h7, h8, h9, h10, h11, h12, h13, h14, h15⟩,
  fun h => ⟨h.silence, h.status, h.ack, h.seeking, h.hello, h.seen, h.data, h.link, h.disabled, h.fault, h.closing,
    h.asked, h.off, h.promotion, h.detached⟩⟩

/-- The condition looks at the session, the role, the transmitter and at whether three timers run. -/
theorem sessionSound_of_eq {s t : State} (hsession : t.session = s.session) (hpart : t.part = s.part)
    (htx : t.tx = s.tx) (hrx : t.rx.silenceTimer.isSome = s.rx.silenceTimer.isSome)
    (hacker : t.acker.statusTimer.isSome = s.acker.statusTimer.isSome)
    (hsender : t.sender.ackTimer.isSome = s.sender.ackTimer.isSome) (h : SessionSound s) : SessionSound t := by
  unfold SessionSound sendingData sendingLink sendingKind at h ⊢
  rwa [hsession, hpart, htx, hrx, hacker, hsender]

theorem sendingData_iff_kind (s : State) : sendingData s = true ↔ ∃ q, sendingKind s = some (.data q) := by
  rw [sendingData_iff]
  unfold sendingKind
  constructor
  · rintro ⟨q, bytes, h⟩
    exact ⟨q, by rw [h]; rfl⟩
  · rintro ⟨q, h⟩
    obtain ⟨f, hf, hq⟩ := Option.map_eq_some_iff.mp h
    exact ⟨q, f.bytes, by rw [hf, ← hq]⟩

theorem sendingLink_iff_kind (s : State) : sendingLink s = true ↔ sendingKind s = some .link := by
  unfold sendingLink
  split <;> simp_all

/-- What holds where no timer of UP runs and nothing but a HELLO is sent: in SEEK, and between UP and the state that
follows it. -/
structure Quiet (s : State) : Prop where
  silence : s.rx.silenceTimer = none
  status : s.acker.statusTimer = none
  ack : s.sender.ackTimer = none
  sending : s.tx.sending = none ∨ sendingKind s = some .hello
  bye : s.tx.byeDue = none
  promotion : s.part.promotionPending = false
  role : s.part.role ≠ .detached

theorem quiet_kind {s : State} (h : Quiet s) : sendingKind s = none ∨ sendingKind s = some .hello :=
  h.sending.imp (fun hs => by rw [sendingKind, hs]; rfl) id

theorem quiet_not_sendingData {s : State} (h : Quiet s) : sendingData s = false := by
  rw [← Bool.not_eq_true, sendingData_iff_kind]
  rintro ⟨q, hq⟩
  obtain hk | hk := quiet_kind h <;> rw [hk] at hq <;> simp at hq

theorem quiet_not_sendingLink {s : State} (h : Quiet s) : sendingLink s = false := by
  rw [← Bool.not_eq_true, sendingLink_iff_kind]
  intro hl
  obtain hk | hk := quiet_kind h <;> rw [hk] at hl <;> simp at hl

/-- In SEEK no timer of UP runs and nothing but a HELLO is sent. -/
theorem quiet_of_seek {s : State} (h : SessionSound s) (hseek : s.session.state = .seek) : Quiet s := by
  rw [sessionSound_iff] at h
  have hdata := h.data
  have hlink := h.link
  have hdisabled := h.disabled
  have hfault := h.fault
  rw [sendingData_iff_kind] at hdata
  rw [sendingLink_iff_kind] at hlink
  refine ⟨?_, ?_, ?_, ?_, ?_, ?_, ?_⟩
  · simpa [hseek] using h.silence
  · simpa [hseek] using h.status
  · simpa [hseek] using h.ack
  · cases hs : s.tx.sending with
    | none => exact .inl rfl
    | some f =>
      obtain ⟨kind, bytes⟩ := f
      have hk : sendingKind s = some kind := by rw [sendingKind, hs]; rfl
      cases kind with
      | data q => simp_all
      | hello => exact .inr hk
      | link => simp_all
      | bye r => cases r <;> simp_all
  · cases hb : s.tx.byeDue with
    | none => rfl
    | some r => cases r <;> simp_all
  · simpa [hseek] using h.promotion
  · intro hr
    have hoff := h.detached hr
    rw [hseek] at hoff
    cases hoff

/-- In UP no BYE is due, no promotion is pending, and the part is not DETACHED. -/
theorem up_facts {s : State} (h : SessionSound s) (hup : s.session.state = .up) :
    s.tx.byeDue = none ∧ s.part.promotionPending = false ∧ s.part.role ≠ .detached := by
  rw [sessionSound_iff] at h
  have hdisabled := h.disabled
  have hfault := h.fault
  refine ⟨?_, by simpa [hup] using h.promotion, fun hr => ?_⟩
  · cases hb : s.tx.byeDue with
    | none => rfl
    | some r => cases r <;> simp_all
  · have hoff := h.detached hr
    rw [hup] at hoff
    cases hoff

/-! ## Departures and entries -/

/-- What the departure from UP leaves, block by block (R121). -/
@[simp] theorem leaveUp_blocks (r : LossReason) (s : State) :
    (leaveUp r s).session = { s.session with lastLoss := r } ∧ (leaveUp r s).tx = abortedTx s.tx ∧
    (leaveUp r s).rx = { s.rx with silenceTimer := none } ∧
    (leaveUp r s).sender = { s.sender with ackTimer := none } ∧
    (leaveUp r s).acker = { s.acker with statusTimer := none } ∧
    (leaveUp r s).journal = (abortFrame s).journal ∧
    (leaveUp r s).events = (raise .linkLost s).events ∧
    (leaveUp r s).counters = (count .sessionLosses s).counters := by
  have hcounters : ∀ e : Event, (count .sessionLosses (raise e s)).counters = (count .sessionLosses s).counters :=
    fun _ => rfl
  simp only [leaveUp]
  split <;> simp [abortFrame_journal, hcounters]

theorem quiet_leaveUp (r : LossReason) {s : State} (h : SessionSound s) (hup : s.session.state = .up) :
    Quiet (leaveUp r s) := by
  obtain ⟨hbye, hpromotion, hrole⟩ := up_facts h hup
  exact ⟨by simp, by simp, by simp, .inl (by simp), by simp [hbye], by simpa using hpromotion, by simpa using hrole⟩

theorem sessionSound_of_quiet_seek {s : State} (h : Quiet s) (hstate : s.session.state = .seek)
    (htimer : s.session.helloTimer.isSome = true) : SessionSound s := by
  have hk := quiet_kind h
  have hd := quiet_not_sendingData h
  have hl := quiet_not_sendingLink h
  obtain ⟨h1, h2, h3, _, h5, h6, h7⟩ := h
  rw [sessionSound_iff]
  constructor <;> simp_all <;> rcases hk with hk | hk <;> simp [hk]

theorem sessionSound_enterSeek {s : State} (h : Quiet s) : SessionSound (enterSeek s) := by
  refine sessionSound_of_quiet_seek ?_ rfl rfl
  obtain ⟨h1, h2, h3, h4, h5, h6, h7⟩ := h
  exact ⟨h1, h2, h3, h4, h5, h6, h7⟩

theorem sessionSound_loseSession (r : LossReason) {s : State} (h : SessionSound s) (hup : s.session.state = .up) :
    SessionSound (loseSession r s) := sessionSound_enterSeek (quiet_leaveUp r h hup)

/-- CLOSING: a BYE(DISABLED) is due, and the frame in transmission has been aborted (R123). -/
theorem sessionSound_enterClosing {s : State} (h : Quiet s) : SessionSound (enterClosing s) := by
  obtain ⟨h1, h2, h3, _, _, h6, h7⟩ := h
  rw [sessionSound_iff]
  have hidle : (enterClosing s).tx.sending = none := by simp [enterClosing]
  constructor <;> simp_all [enterClosing, sendingData, sendingLink, sendingKind]

/-- OFF: nothing runs, nothing is due and nothing is sent (R109, R110). -/
theorem sessionSound_off {s : State} (hstate : s.session.state = .off) (htimer : s.session.helloTimer = none)
    (hsilence : s.rx.silenceTimer = none) (hstatus : s.acker.statusTimer = none) (hack : s.sender.ackTimer = none)
    (hsending : s.tx.sending = none) (hbye : s.tx.byeDue = none) (hasked : s.tx.helloDue = false) :
    SessionSound s := by
  rw [sessionSound_iff]
  constructor <;> simp_all [sendingData, sendingLink, sendingKind]

/-- Outside UP no timer of UP runs. -/
theorem timers_of_not_up {s : State} (h : SessionSound s) (hup : s.session.state ≠ .up) :
    s.rx.silenceTimer = none ∧ s.acker.statusTimer = none ∧ s.sender.ackTimer = none := by
  rw [sessionSound_iff] at h
  obtain ⟨hsilence, hstatus, hack, _⟩ := h
  simp_all

theorem sessionSound_enterOff {s : State} (h : SessionSound s) (hup : s.session.state ≠ .up) :
    SessionSound (enterOff s) := by
  obtain ⟨hsilence, hstatus, hack⟩ := timers_of_not_up h hup
  refine sessionSound_off ?_ ?_ ?_ ?_ ?_ ?_ ?_ ?_ <;> simp_all [enterOff]

/-- In OFF nothing runs, nothing is due and nothing is sent. -/
theorem off_facts {s : State} (h : SessionSound s) (hoff : s.session.state = .off) :
    s.session.helloTimer = none ∧ s.rx.silenceTimer = none ∧ s.acker.statusTimer = none ∧
      s.sender.ackTimer = none ∧ s.tx.sending = none ∧ s.tx.byeDue = none ∧ s.tx.helloDue = false := by
  obtain ⟨hsilence, hstatus, hack⟩ := timers_of_not_up h (by simp [hoff])
  rw [sessionSound_iff] at h
  have hdisabled := h.disabled
  have hfault := h.fault
  refine ⟨by simpa [hoff] using h.hello, hsilence, hstatus, hack, h.off hoff, ?_, by simpa [hoff] using h.asked⟩
  cases hb : s.tx.byeDue with
  | none => rfl
  | some r => cases r <;> simp_all

/-- Entry to FAULT without a departure from UP (R125). -/
def faulted (c : FaultCause) (s : State) : State :=
  (raise .linkFault (s.setSession { s.session with state := .fault, faultCause := c, helloTimer := none })).setTx
    { s.tx with helloDue := false, byeDue := some .fault }

theorem enterFault_of_up (c : FaultCause) (s : State) (h : s.session.state = .up) :
    enterFault c s = faulted c (leaveUp .fault s) := by
  simp only [enterFault, h, if_true]
  rfl

theorem enterFault_of_not_up (c : FaultCause) (s : State) (h : s.session.state ≠ .up) :
    enterFault c s = faulted c s := by
  simp only [enterFault, if_neg h]
  rfl

@[simp] theorem faulted_blocks (c : FaultCause) (s : State) :
    (faulted c s).inReset = s.inReset ∧ (faulted c s).mgmt = s.mgmt ∧ (faulted c s).counters = s.counters ∧
    (faulted c s).params = s.params ∧ (faulted c s).table = s.table ∧ (faulted c s).part = s.part ∧
    (faulted c s).host = s.host ∧ (faulted c s).port = s.port ∧ (faulted c s).mem = s.mem ∧
    (faulted c s).capture = s.capture ∧ (faulted c s).hold = s.hold ∧ (faulted c s).journal = s.journal ∧
    (faulted c s).copy = s.copy ∧
    (faulted c s).session = { s.session with state := .fault, faultCause := c, helloTimer := none } ∧
    (faulted c s).tx = { s.tx with helloDue := false, byeDue := some .fault } ∧ (faulted c s).rx = s.rx ∧
    (faulted c s).sender = s.sender ∧ (faulted c s).acker = s.acker ∧ (faulted c s).applyq = s.applyq ∧
    (faulted c s).pending = s.pending := by
  and_intros <;> rfl

/-- FAULT: a BYE(FAULT) is due (R125). -/
theorem sessionSound_faulted (c : FaultCause) {s : State} (h : Quiet s) : SessionSound (faulted c s) := by
  have hk := quiet_kind h
  have hd := quiet_not_sendingData h
  have hl := quiet_not_sendingLink h
  have hkind : sendingKind (faulted c s) = sendingKind s := rfl
  have hdata : sendingData (faulted c s) = sendingData s := rfl
  have hlink : sendingLink (faulted c s) = sendingLink s := rfl
  obtain ⟨h1, h2, h3, h4, h5, h6, h7⟩ := h
  rw [sessionSound_iff]
  rcases hk with hk | hk <;> constructor <;> simp_all

theorem sessionSound_enterFault (c : FaultCause) {s : State} (h : SessionSound s)
    (hd : dispatching s.session.state = true) : SessionSound (enterFault c s) := by
  by_cases hup : s.session.state = .up
  · exact enterFault_of_up c s hup ▸ sessionSound_faulted c (quiet_leaveUp .fault h hup)
  · have hseek : s.session.state = .seek := by cases hs : s.session.state <;> simp_all [dispatching]
    exact enterFault_of_not_up c s hup ▸ sessionSound_faulted c (quiet_of_seek h hseek)

/-! ## A stream restart -/

theorem sessionSound_restartSession {s : State} (h : SessionSound s) : SessionSound (restartSession s) := by
  unfold restartSession
  split
  · exact sessionSound_loseSession .resync h ‹_›
  · exact sessionSound_enterSeek (quiet_of_seek h ‹_›)
  · exact h

theorem sessionSound_restart (r : RestartReason) {s : State} (h : SessionSound s) : SessionSound (restart r s) := by
  rw [restart_eq]
  have hbegun : SessionSound (restartBegun r s) :=
    sessionSound_of_eq (by simp) (by simp) (by simp) (by simp) (by simp) (by simp) h
  exact sessionSound_of_eq (by simp) (by simp) (by simp) (by simp) (by simp) (by simp)
    (sessionSound_restartSession hbegun)

/-! ## The arbiter -/

theorem sessionSound_stallWrite (w : HostWrite) {s : State} (h : SessionSound s) : SessionSound (stallWrite w s) := by
  have hbegun : SessionSound (stallBegun w s) :=
    sessionSound_of_eq (by simp) (by simp) (by simp) (by simp) (by simp) (by simp) h
  rw [stallWrite_eq]
  split
  · exact sessionSound_of_eq (by simp) (by simp) (by simp) (by simp) (by simp) (by simp)
      (sessionSound_restart .stall hbegun)
  · split <;> exact hbegun

theorem sessionSound_captureWrite (w : HostWrite) (i : WindowId) (m : Mode) {s : State} (h : SessionSound s) :
    SessionSound (captureWrite w i m s) := by
  obtain ⟨rs, rs', _, _, heq⟩ | ⟨_, heq⟩ | ⟨_, heq⟩ := captureWrite_cases w i m s
  · rw [heq]
    exact sessionSound_of_eq (by simp) (by simp) (by simp) (by simp) (by simp) (by simp) h
  · rw [heq]
    exact sessionSound_of_eq (by simp) (by simp) (by simp) (by simp) (by simp) (by simp) h
  · rw [heq]
    exact sessionSound_stallWrite w
      (sessionSound_of_eq (by simp) (by simp) (by simp) (by simp) (by simp) (by simp) h)

theorem sessionSound_grantHost (s : State) (h : SessionSound s) : SessionSound (grantHost s) := by
  obtain ⟨_, heq⟩ | ⟨a, p, _, heq⟩ | ⟨w, p, _, heq | heq | ⟨i, _, heq⟩ | ⟨_, heq⟩⟩ := grantHost_cases s
  · exact heq.symm ▸ h
  · exact heq ▸ h
  · exact heq ▸ h
  · rw [heq]
    exact sessionSound_of_eq (by simp) (by simp) (by simp) (by simp) (by simp) (by simp) h
  · exact heq ▸ sessionSound_captureWrite w i _ (s := hostGranted s) h
  · rw [heq]
    exact sessionSound_of_eq (by simp) (by simp) (by simp) (by simp) (by simp) (by simp) h

theorem sessionSound_arbitrate (s : State) (h : SessionSound s) : SessionSound (arbitrate s) :=
  arbitrate_keeps (P := SessionSound) (fun u => grantOnce_keeps (P := SessionSound) u (sessionSound_grantHost u)
    (sessionSound_of_eq (by simp) (by simp) (by simp) (by simp) (by simp) (by simp))) s h

/-! ## A HELLO -/

/-- A release changes no more of the session than the reject-restart count (R16). -/
@[simp] theorem release_session (n : Seq) (s : State) :
    (release n s).session.state = s.session.state ∧ (release n s).session.seen = s.session.seen ∧
    (release n s).session.lastLoss = s.session.lastLoss ∧
    (release n s).session.faultCause = s.session.faultCause ∧
    (release n s).session.helloTimer = s.session.helloTimer := by
  simp only [release]
  (repeat' split) <;> simp

/-- UP: the silence timer runs, and at a SECONDARY the status interval timer (R119). -/
theorem sessionSound_up {s t : State} (h : Quiet s) (hpart : t.part = s.part) (htx : t.tx = s.tx)
    (hstate : t.session.state = .up) (hseen : t.session.seen = true) (hhello : t.session.helloTimer = none)
    (hsilence : t.rx.silenceTimer.isSome = true) (hack : t.sender.ackTimer = none)
    (hstatus : t.acker.statusTimer.isSome = true ↔ s.part.role = .secondary) : SessionSound t := by
  have hk := quiet_kind h
  have hd := quiet_not_sendingData h
  have hl := quiet_not_sendingLink h
  have hkind : sendingKind t = sendingKind s := by unfold sendingKind; rw [htx]
  have hdata : sendingData t = sendingData s := by unfold sendingData; rw [htx]
  have hlink : sendingLink t = sendingLink s := by unfold sendingLink; rw [hkind]
  obtain ⟨_, _, _, _, h5, h6, h7⟩ := h
  rw [sessionSound_iff]
  rcases hk with hk | hk <;> constructor <;> simp_all

theorem sessionSound_enterUp (f : HelloFrame) {s : State} (h : Quiet s) (hseen : s.session.seen = true) :
    SessionSound (enterUp f s) := by
  cases hr : s.part.role with
  | primary =>
    rw [enterUp_of_primary f s hr]
    refine sessionSound_up h ?_ ?_ ?_ ?_ ?_ ?_ ?_ ?_
    · simp [startSilence, upSession]
    · simp [startSilence, upSession]
    · simp [startSilence, enterUpPrimary, place, upSession]
    · simp [startSilence, enterUpPrimary, place, upSession, hseen]
    · simp [startSilence, enterUpPrimary, place, upSession]
    · simp [startSilence]
    · simp [startSilence, enterUpPrimary]
    · simp [startSilence, upSession, hr, h.status]
  | secondary =>
    rw [enterUp_of_secondary f s hr]
    exact sessionSound_up h rfl rfl rfl hseen rfl rfl h.ack (by simp [startSilence, enterUpSecondary, hr])
  | detached => exact absurd hr h.role

theorem sessionSound_acceptHello (f : HelloFrame) {s : State} (h : SessionSound s)
    (hseek : s.session.state = .seek) : SessionSound (acceptHello f s) := by
  have hquiet := quiet_of_seek h hseek
  unfold acceptHello
  by_cases hseen : s.session.seen = true
  · simp only [hseen, if_true]
    split
    · exact sessionSound_enterUp f hquiet hseen
    · exact h
  · simp only [hseen, Bool.false_eq_true, if_false]
    have hasked : Quiet (startHelloTimer (askHello (s.setSession { s.session with seen := true }))) := by
      obtain ⟨h1, h2, h3, h4, h5, h6, h7⟩ := hquiet
      exact ⟨h1, h2, h3, h4, h5, h6, h7⟩
    split
    · exact sessionSound_enterUp f hasked rfl
    · exact sessionSound_of_quiet_seek hasked hseek rfl

theorem sessionSound_judgeHello (f : HelloFrame) {s : State} (h : SessionSound s)
    (hseek : s.session.state = .seek) : SessionSound (judgeHello f s) := by
  unfold judgeHello
  split
  · exact sessionSound_acceptHello f h hseek
  · split
    · split
      · exact h
      · exact sessionSound_restart .join h
    · split
      · exact sessionSound_acceptHello f (s := adopt f s) h hseek
      · exact h
    · exact h

theorem sessionSound_receiveHello (f : HelloFrame) {s : State} (h : SessionSound s)
    (hd : dispatching s.session.state = true) : SessionSound (receiveHello f s) := by
  unfold receiveHello
  split
  · exact sessionSound_enterFault _ h hd
  · split
    · exact sessionSound_enterFault _ h hd
    · split
      · rename_i hup
        split
        · unfold answerHello
          split
          · exact h
          · rw [sessionSound_iff] at h ⊢
            obtain ⟨h1, h2, h3, h4, h5, h6, h7, h8, h9, h10, h11, h12, h13, h14, h15⟩ := h
            exact ⟨h1, h2, h3, fun _ => rfl, fun _ => .inr hup, h6, h7, h8, h9, h10, h11, fun _ => .inr hup, h13, h14,
              h15⟩
        · exact sessionSound_judgeHello f (sessionSound_loseSession .peerHello h hup) rfl
      · rename_i hup
        have hseek : s.session.state = .seek := by cases hs : s.session.state <;> simp_all [dispatching]
        exact sessionSound_judgeHello f h hseek

/-! ## The other commands -/

/-- At a PRIMARY in UP the ack timer may start and stop (R136). -/
theorem sessionSound_of_primary_up {s t : State} (h : SessionSound s) (hup : s.session.state = .up)
    (hrole : s.part.role = .primary) (hstate : t.session.state = s.session.state)
    (hseen : t.session.seen = s.session.seen) (htimer : t.session.helloTimer = s.session.helloTimer)
    (hpart : t.part = s.part) (htx : t.tx = s.tx) (hrx : t.rx.silenceTimer = s.rx.silenceTimer)
    (hacker : t.acker.statusTimer = s.acker.statusTimer) : SessionSound t := by
  rw [sessionSound_iff] at h ⊢
  obtain ⟨h1, h2, _, h4, h5, h6, h7, h8, h9, h10, h11, h12, h13, h14, h15⟩ := h
  unfold sendingData sendingLink sendingKind at *
  rw [← hstate, ← hpart, ← hacker] at h2
  rw [← hrx, ← hstate] at h1
  rw [← hstate] at h4 h5 h6 h7 h8 h9 h10 h11 h12 h13 h14 h15 hup
  rw [← htimer] at h4 h5
  rw [← hseen] at h6
  rw [← hpart] at h7 h8 h14 h15 hrole
  rw [← htx] at h7 h8 h9 h10 h11 h12 h13
  exact ⟨h1, h2, fun _ => ⟨hup, hrole⟩, h4, h5, h6, h7, h8, h9, h10, h11, h12, h13, h14, h15⟩

/-- The part as its promotion completes, before the stream restart (R182). -/
def promoted (s : State) : State :=
  clearSender (clearRejectRestarts ((leaveSecondary s).setPart
    { role := .primary, promotionPending := false, forced := !s.applyq.consistent }))

theorem completePromotion_eq (s : State) :
    completePromotion s = raise .promoteDone (restart .promote (promoted s)) := rfl

/-- A promotion completes in OFF, where nothing of the session runs (R182). -/
theorem sessionSound_completePromotion {s : State} (h : SessionSound s) (hoff : s.session.state = .off) :
    SessionSound (completePromotion s) := by
  obtain ⟨h1, h2, _, _, h5, h6, h7⟩ := off_facts h hoff
  have hpromoted : SessionSound (promoted s) := sessionSound_off hoff h1 h2 rfl rfl h5 h6 h7
  rw [completePromotion_eq]
  exact sessionSound_of_eq (by simp) (by simp) (by simp) (by simp) (by simp) (by simp)
    (sessionSound_restart .promote hpromoted)

theorem sessionSound_endPromotion {s : State} (h : SessionSound s) : SessionSound (endPromotion s) := by
  obtain heq | ⟨hpending, _, heq⟩ := endPromotion_cases s
  · exact heq.symm ▸ h
  · exact heq ▸ sessionSound_completePromotion h ((sessionSound_iff s).mp h |>.promotion hpending)

theorem sessionSound_finishEntry (q : Seq) {s : State} (h : SessionSound s) : SessionSound (finishEntry q s) :=
  sessionSound_endPromotion (s := completeEntry q s) h

theorem sessionSound_applyTake {s : State} (h : SessionSound s) : SessionSound (applyTake s) := by
  obtain heq | ⟨e, rest, _, _, heq⟩ := applyTake_cases s
  · exact heq.symm ▸ h
  · rw [heq]
    generalize hu : s.setApplyq { s.applyq with queue := rest } = u
    have hsound : SessionSound u := hu ▸ h
    have hfinish : ∀ v q, v.session = u.session → v.part = u.part → v.tx = u.tx →
        v.rx = u.rx → v.acker = u.acker → v.sender = u.sender → SessionSound (finishEntry q v) := fun v q h1 h2 h3 h4 h5 h6 =>
      sessionSound_finishEntry q (sessionSound_of_eq h1 h2 h3 (by rw [h4]) (by rw [h5]) (by rw [h6]) hsound)
    obtain heq | heq | ⟨records, complete, _, _, heq⟩ | ⟨g, _, heq⟩ | ⟨g, _, heq⟩ := takeEntry_cases e u
    · exact heq ▸ hfinish _ _ (by simp) (by simp) (by simp) (by simp) (by simp) (by simp)
    · exact heq ▸ sessionSound_arbitrate _ hsound
    · exact heq ▸ hfinish _ _ (by simp) (by simp) (by simp) (by simp) (by simp) (by simp)
    · exact heq ▸ hfinish _ _ (by simp) (by simp) (by simp) (by simp) (by simp) (by simp)
    · exact heq ▸ hfinish _ _ (by simp) (by simp) (by simp) (by simp) (by simp) (by simp)

/-- A soft reset ends in OFF (R130). -/
theorem sessionSound_softReset (s : State) : SessionSound (softReset s) := by
  rw [softReset_eq]
  refine sessionSound_arbitrate _ ?_
  refine sessionSound_off ?_ ?_ ?_ ?_ ?_ ?_ ?_ ?_ <;> simp [softResetDone]

/-- A role changes in OFF, and no promotion is pending then (R177). -/
theorem sessionSound_changeRole (r : Role) {s : State} (h : SessionSound s) (hoff : s.session.state = .off) :
    SessionSound (changeRole r s) := by
  obtain ⟨h1, h2, h3, h4, h5, h6, h7⟩ := off_facts h hoff
  have hleft : (leaveRole s).acker.statusTimer = none ∧ (leaveRole s).sender.ackTimer = none := by
    unfold leaveRole
    cases s.part.role with
    | detached => exact ⟨h3, h4⟩
    | primary => exact ⟨by simpa using h3, by simp [leavePrimary, clearSender]⟩
    | secondary => exact ⟨rfl, by simpa using h4⟩
  have hgone : SessionSound (clearRejectRestarts ((leaveRole s).setPart
      { (leaveRole s).part with role := r, forced := false })) := by
    refine sessionSound_off ?_ ?_ ?_ ?_ ?_ ?_ ?_ ?_ <;> simp [clearRejectRestarts, *]
  cases r with
  | detached => exact hgone
  | secondary =>
    refine sessionSound_off ?_ ?_ ?_ ?_ ?_ ?_ ?_ ?_ <;> simp [changeRole, clearRejectRestarts, arriveSecondary, *]
  | primary =>
    refine sessionSound_restart .role (sessionSound_off ?_ ?_ ?_ ?_ ?_ ?_ ?_ ?_) <;>
      simp [clearRejectRestarts, clearSender, *]

theorem sessionSound_setRole (args : List Byte) {s : State} (h : SessionSound s) :
    SessionSound (setRoleEffect args s).state := by
  unfold setRoleEffect
  repeat' split
  case h_2.isFalse.isFalse.isFalse.isFalse.isFalse.isFalse =>
    rename_i hoff _ _ _ _ _
    exact sessionSound_changeRole _ h (not_not.mp hoff)
  all_goals exact h

theorem sessionSound_promote (args : List Byte) {s : State} (h : SessionSound s) :
    SessionSound (promoteEffect args s).state := by
  unfold promoteEffect
  repeat' split
  case h_2.isFalse.isFalse.isFalse.isFalse =>
    rename_i hoff _ _
    have hset : SessionSound (s.setPart { s.part with promotionPending := true }) := by
      rw [sessionSound_iff] at h ⊢
      obtain ⟨h1, h2, h3, h4, h5, h6, h7, h8, h9, h10, h11, h12, h13, _, h15⟩ := h
      exact ⟨h1, h2, h3, h4, h5, h6, h7, h8, h9, h10, h11, h12, h13, fun _ => not_not.mp hoff, h15⟩
    dsimp only
    split
    · exact sessionSound_completePromotion hset (not_not.mp hoff)
    · exact hset
  all_goals exact h

theorem sessionSound_linkEnable (args : List Byte) {s : State} (h : SessionSound s) :
    SessionSound (linkEnableEffect args s).state := by
  unfold linkEnableEffect
  repeat' split
  case isFalse.isFalse.isFalse =>
    rename_i hoff hrole hpending
    obtain ⟨_, h2, h3, h4, h5, h6, _⟩ := off_facts h (not_not.mp hoff)
    exact sessionSound_enterSeek ⟨h2, h3, h4, .inl h5, h6, by simpa using hpending, hrole⟩
  all_goals exact h

theorem sessionSound_linkDisable (args : List Byte) {s : State} (h : SessionSound s) :
    SessionSound (linkDisableEffect args s).state := by
  unfold linkDisableEffect
  cases hstate : s.session.state with
  | off => exact h
  | seek => exact sessionSound_enterClosing (quiet_of_seek h hstate)
  | up => exact sessionSound_enterClosing (quiet_leaveUp .disabled h hstate)
  | closing => exact h
  | fault => exact sessionSound_enterOff h (by simp [hstate])

theorem sessionSound_receiveLink (f : LinkFrame) {s : State} (h : SessionSound s) :
    SessionSound (receiveLink f s) := by
  unfold receiveLink
  split
  · rename_i hup
    obtain ⟨hrole, hup⟩ := hup
    split
    · unfold peerReject
      split
      · refine sessionSound_restart .peerReject ?_
        rw [sessionSound_iff] at h ⊢
        exact ⟨h.silence, h.status, h.ack, h.seeking, h.hello, h.seen, h.data, h.link, h.disabled, h.fault, h.closing,
          h.asked, h.off, h.promotion, h.detached⟩
      · exact sessionSound_enterFault _ h (by rw [hup]; rfl)
    · split
      · refine sessionSound_of_primary_up h hup hrole ?_ ?_ ?_ ?_ ?_ ?_ ?_ <;>
          (simp only [takeLink]; split <;> simp)
      · exact h
  · exact h

/-- The frame that starts is due in its session state (R106). -/
theorem nextFrame_cases (s : State) (k : TxKind) (f : Frame) (h : nextFrame s = some (k, f)) :
    (∃ r, k = .bye r ∧ s.tx.byeDue = some r) ∨
      (s.tx.byeDue = none ∧ k = .hello ∧ (s.session.state = .seek ∨ s.session.state = .up)) ∨
      (s.tx.byeDue = none ∧ k = .link ∧ s.session.state = .up ∧ s.part.role = .secondary) ∨
      (s.tx.byeDue = none ∧ s.session.state = .up ∧ s.part.role = .primary ∧
        ∃ e, s.journal.entryAt s.journal.sendPoint = some e ∧ e.state = .ready ∧ k = .data e.seq) := by
  unfold nextFrame at h
  split at h
  · cases h
    exact .inl ⟨_, rfl, ‹_›⟩
  · rename_i hbye
    split at h
    · rename_i hdue
      cases h
      simp only [helloIsDue, Bool.and_eq_true, Bool.or_eq_true, beq_iff_eq] at hdue
      exact .inr (.inl ⟨hbye, rfl, hdue.2⟩)
    · split at h
      · rename_i hdue
        cases h
        simp only [linkIsDue, Bool.and_eq_true, beq_iff_eq] at hdue
        obtain ⟨⟨_, hup⟩, hrole⟩ := hdue
        exact .inr (.inr (.inl ⟨hbye, rfl, hup, hrole⟩))
      · split at h
        · rename_i e hdue
          cases h
          unfold dataDue at hdue
          split at hdue
          · rename_i hcond
            obtain ⟨hrole, hup, _⟩ := hcond
            split at hdue
            · split at hdue
              · cases hdue
                exact .inr (.inr (.inr ⟨hbye, hup, hrole, e, ‹_›, ‹_›, rfl⟩))
              · cases hdue
            · cases hdue
          · cases hdue
        · cases h

theorem startFrame_cases (s : State) :
    startFrame s = s ∨ ∃ k f, s.tx.sending = none ∧ nextFrame s = some (k, f) ∧
      startFrame s = (clearDue k s).setTx { (clearDue k s).tx with sending := some { kind := k, bytes := f.bytes } } := by
  unfold startFrame
  split
  · exact .inr ⟨_, _, ‹_›, ‹_›, rfl⟩
  · exact .inl rfl

/-- The frame in transmission belongs to its session state (R106). -/
theorem sessionSound_startFrame {s : State} (h : SessionSound s) : SessionSound (startFrame s) := by
  obtain heq | ⟨k, f, hidle, hnext, heq⟩ := startFrame_cases s
  · exact heq.symm ▸ h
  · rw [heq]
    have hnone : sendingKind s = none := by rw [sendingKind, hidle]; rfl
    rw [sessionSound_iff] at h ⊢
    obtain ⟨h1, h2, h3, h4, h5, h6, _, _, h9, h10, h11, h12, h13, h14, h15⟩ := h
    obtain ⟨r, rfl, hbye⟩ | ⟨hbye, rfl, hstate⟩ | ⟨hbye, rfl, hup, hrole⟩ | ⟨hbye, hup, hrole, e, _, _, rfl⟩ :=
      nextFrame_cases s k f hnext
    · constructor <;> cases r <;> simp_all [clearDue, sendingData, sendingLink, sendingKind]
    · constructor <;> rcases hstate with hstate | hstate <;>
        simp_all [clearDue, sendingData, sendingLink, sendingKind]
    · constructor <;> simp_all [clearDue, sendingData, sendingLink, sendingKind]
    · constructor <;> simp_all [clearDue, sendingData, sendingLink, sendingKind]

/-- A frame has ended: nothing is sent, and what it was belonged to a state other than CLOSING, or a BYE is still due. -/
theorem sessionSound_endFrame {s : State} (h : SessionSound s) (hbye : sendingKind s ≠ some (.bye .disabled)) :
    SessionSound (endFrame s) := by
  have hkind : sendingKind (endFrame s) = none := rfl
  rw [sessionSound_iff] at h ⊢
  exact ⟨h.silence, h.status, h.ack, h.seeking, h.hello, h.seen, fun hd => absurd hd Bool.false_ne_true,
    fun hl => absurd hl Bool.false_ne_true, fun hb => h.disabled (hb.imp id (by simp [hkind])),
    fun hb => h.fault (hb.imp id (by simp [hkind])), fun hc => .inl ((h.closing hc).resolve_right hbye), h.asked,
    fun _ => rfl, h.promotion, h.detached⟩

theorem sessionSound_endDataFrame {s : State} (h : SessionSound s) : SessionSound (endDataFrame s) := by
  cases hd : sendingData s with
  | false => exact (endDataFrame_of_not_sending s hd).symm ▸ h
  | true =>
    obtain ⟨hup, hrole⟩ := (sessionSound_iff s).mp h |>.data hd
    obtain ⟨q, bytes, hsending⟩ := (sendingData_iff s).mp hd
    have hended := sessionSound_endFrame h (by simp [sendingKind, hsending])
    refine sessionSound_of_primary_up hended hup hrole ?_ ?_ ?_ ?_ ?_ ?_ ?_ <;>
      (simp only [endDataFrame, hsending]; split <;> simp)

theorem sessionSound_endControlFrame {s : State} (h : SessionSound s) : SessionSound (endControlFrame s) := by
  unfold endControlFrame
  split
  · exact sessionSound_endFrame h (by simp [sendingKind, *])
  · exact sessionSound_endFrame h (by simp [sendingKind, *])
  · exact h

theorem sessionSound_endByeFault {s : State} (h : SessionSound s) : SessionSound (endByeFault s) := by
  unfold endByeFault
  split
  · exact sessionSound_endFrame h (by simp [sendingKind, *])
  · exact h

/-- After a BYE(DISABLED) the session is OFF (R123). -/
theorem sessionSound_endByeDisabled {s : State} (h : SessionSound s) : SessionSound (endByeDisabled s) := by
  unfold endByeDisabled
  split
  · rename_i hsending
    have hclosing := (sessionSound_iff s).mp h |>.disabled (.inr (by simp [sendingKind, hsending]))
    obtain ⟨h1, h2, h3⟩ := timers_of_not_up h (by simp [hclosing])
    refine sessionSound_off ?_ ?_ ?_ ?_ ?_ ?_ ?_ ?_ <;> simp [enterOff, *]
  · exact h

theorem sessionSound_helloExpiry {s : State} (h : SessionSound s) : SessionSound (helloExpiry s) := by
  unfold helloExpiry
  split
  · cases hstate : s.session.state with
    | seek =>
      obtain ⟨h1, h2, h3, h4, h5, h6, h7⟩ := quiet_of_seek h hstate
      exact sessionSound_of_quiet_seek (s := startHelloTimer (askHello s)) ⟨h1, h2, h3, h4, h5, h6, h7⟩ hstate rfl
    | up =>
      rw [sessionSound_iff] at h ⊢
      exact ⟨h.silence, h.status, h.ack, fun hs => absurd (hs.symm.trans hstate) (by simp), fun ht => absurd ht (by simp),
        h.seen, h.data, h.link, h.disabled, h.fault, h.closing, h.asked, h.off, h.promotion, h.detached⟩
    | off => exact h
    | closing => exact h
    | fault => exact h
  · exact h

/-- A symbol restarts the silence timer only where it runs (R105). -/
theorem sessionSound_receiveSymbol (sym : Symbol) {s : State} (h : SessionSound s) :
    SessionSound (receiveSymbol sym s) := by
  have hrestart : (restartSilence s).rx.silenceTimer.isSome = s.rx.silenceTimer.isSome := by
    unfold restartSilence
    split <;> simp [*]
  have hframe : ∀ u, (frameSymbol sym u).rx.silenceTimer = u.rx.silenceTimer := by
    intro u
    unfold frameSymbol judgeFrame
    (repeat' split) <;> simp [setFraming]
  unfold receiveSymbol
  split
  · exact h
  · split
    · exact h
    · exact sessionSound_of_eq (by simp) (by simp) (by simp) (by rw [hframe, hrestart]) (by simp) (by simp) h

theorem sessionSound_kept : KeptByCommands SessionSound := by
  constructor
  case powerReset => exact fun n s _ => sessionSound_off rfl rfl rfl rfl rfl rfl rfl rfl
  case softReset => exact fun s _ => sessionSound_softReset s
  case setRole => exact fun args s h => sessionSound_setRole args h
  case promote => exact fun args s h => sessionSound_promote args h
  case linkEnable => exact fun args s h => sessionSound_linkEnable args h
  case linkDisable => exact fun args s h => sessionSound_linkDisable args h
  case startResync =>
    intro args s h
    unfold startResyncEffect
    split
    · exact sessionSound_restart .command h
    · exact h
  case presentTransaction =>
    intro txn s h
    unfold presentTransaction
    split
    · exact sessionSound_arbitrate _ h
    · exact h
  case endHostRead =>
    intro s h
    unfold endHostRead
    split
    · exact sessionSound_arbitrate _ h
    · exact h
  case endHostWrite =>
    intro s h
    unfold endHostWrite
    split
    · exact sessionSound_arbitrate _ (by split <;> exact h)
    · exact h
  case represent =>
    exact fun s h => sessionSound_arbitrate _
      (sessionSound_of_eq (by simp) (by simp) (by simp) (by simp) (by simp) (by simp) h)
  case endApply =>
    intro s h
    unfold endApply
    split
    · exact sessionSound_arbitrate _ (sessionSound_finishEntry _ h)
    · exact h
  case endBurst =>
    intro w c v s t h _ _ hend
    obtain rfl | ⟨_, _, rfl⟩ := endBurst_cases w c v s t hend
    · exact sessionSound_arbitrate _ h
    · exact sessionSound_arbitrate _
        (sessionSound_of_eq (by simp) (by simp) (by simp) (by simp) (by simp) (by simp) h)
  case applyTake => exact fun s h => sessionSound_applyTake h
  case copyRequest =>
    intro s h
    unfold copyRequest
    split
    · split
      · exact sessionSound_arbitrate _ h
      · exact h
    · exact h
  case endPromotion => exact fun s h => sessionSound_endPromotion h
  case stallExpiry =>
    intro s h
    unfold stallExpiry
    split
    · exact sessionSound_restart .stall h
    · exact h
  case ackExpiry =>
    intro s h
    simp only [ackExpiry]
    split
    · rename_i hruns
      obtain ⟨hup, hrole⟩ := (sessionSound_iff s).mp h |>.ack hruns
      have hraised : ∀ x, SessionSound (s.setSender x) := fun x =>
        sessionSound_of_primary_up h hup hrole rfl rfl rfl rfl rfl rfl rfl
      split
      · exact sessionSound_of_primary_up h hup hrole (by simp) (by simp) (by simp) (by simp) (by simp) (by simp)
          (by simp)
      · exact sessionSound_loseSession .retryLimit (hraised _) hup
    · exact h
  case silenceExpiry =>
    intro s h
    unfold silenceExpiry
    split
    · exact sessionSound_loseSession .silence h ((sessionSound_iff s).mp h |>.silence.mp ‹_›)
    · exact h
  case helloExpiry => exact fun s h => sessionSound_helloExpiry h
  case statusExpiry =>
    intro s h
    simp only [statusExpiry]
    split
    · exact sessionSound_of_eq (s := s) rfl rfl rfl rfl (by simp [*]) rfl h
    · exact h
  case receiveSymbol => exact fun sym s h => sessionSound_receiveSymbol sym h
  case receiveHello => exact fun f s _ hd h => sessionSound_receiveHello f h hd
  case receiveBye =>
    intro s _ h
    unfold receiveBye
    split
    · exact sessionSound_loseSession .peerBye h ‹_›
    · exact h
  case receiveLink => exact fun f s h => sessionSound_receiveLink f h
  case receiveData =>
    intro f s _ h
    refine sessionSound_of_eq (by simp) (by simp) (by simp) (by simp) ?_ (by simp) h
    unfold receiveData askNak
    (repeat' split) <;> simp [acceptData, pendLink, rearmNak]
  case startFrame => exact fun s h => sessionSound_startFrame h
  case endDataFrame => exact fun s h => sessionSound_endDataFrame h
  case endControlFrame => exact fun s h => sessionSound_endControlFrame h
  case endByeDisabled => exact fun s h => sessionSound_endByeDisabled h
  case endByeFault => exact fun s h => sessionSound_endByeFault h
  all_goals
    intros
    refine sessionSound_of_eq ?_ ?_ ?_ ?_ ?_ ?_ ‹SessionSound _›
    all_goals simp

/-- Settles O56: each session state is entered with its timers started and the others stopped, and a frame starts only
where it is due; nothing else touches them. -/
theorem sessionStaysSound : Obligations.SessionStaysSound :=
  fun _ _ h hstep => step_keeps sessionSound_kept h hstep

end Sys2Proof.Proofs
end

section
/-! What a part that is not PRIMARY, and one that is not SECONDARY, keeps empty (R41, R61, R147, R163, R176). -/

namespace Sys2Proof.Proofs

open Sys2Proof.Machine

/-! ## The condition with names for its parts -/

/-- What a part that is not PRIMARY keeps empty. -/
structure NoStream (s : State) : Prop where
  entries : s.journal.entries = []
  states : ∀ i : WindowId, s.copy.states[i] = .untracked
  syncOwed : s.copy.syncOwed = false
  engine : s.copy.engine = .idle
  capture : s.capture = { stallTimer := none, sealTimer := none }
  unstalled : isStalled s = false
  uncommitted : s.table.commitPending = false

/-- What a part that is not SECONDARY keeps empty. -/
structure NoQueue (s : State) : Prop where
  queue : s.applyq.queue = []
  engine : s.applyq.engine = .idle
  promotion : s.part.promotionPending = false

/-- What the role gives no use for is empty. -/
structure RoleEmpty (s : State) : Prop where
  stream : s.part.role ≠ .primary → NoStream s
  queue : s.part.role ≠ .secondary → NoQueue s

theorem roleSound_iff (s : State) :
    RoleSound s ↔ RoleEmpty s ∧ (s.part.role = .detached → s.session.state = .off) := by
  constructor
  · rintro ⟨hstream, hqueue, hoff⟩
    refine ⟨⟨fun hr => ?_, fun hr => ?_⟩, hoff⟩
    · obtain ⟨h1, h2, h3, h4, h5, h6, h7⟩ := hstream hr
      exact ⟨h1, h2, h3, h4, h5, Bool.not_eq_true _ ▸ h6, h7⟩
    · obtain ⟨h1, h2, h3⟩ := hqueue hr
      exact ⟨h1, h2, h3⟩
  · rintro ⟨⟨hstream, hqueue⟩, hoff⟩
    refine ⟨fun hr => ?_, fun hr => ?_, hoff⟩
    · obtain ⟨h1, h2, h3, h4, h5, h6, h7⟩ := hstream hr
      exact ⟨h1, h2, h3, h4, h5, Bool.not_eq_true _ ▸ h6, h7⟩
    · obtain ⟨h1, h2, h3⟩ := hqueue hr
      exact ⟨h1, h2, h3⟩

/-- What leaves the role keeps empty what is empty when it adds no entry, copies nothing, stalls nothing, and leaves
the queue. -/
theorem roleEmpty_mono {s t : State} (hpart : t.part = s.part)
    (hentries : s.journal.entries = [] → t.journal.entries = [])
    (hcopy : s.copy.engine = .idle → t.copy = s.copy) (hcapture : t.capture = s.capture)
    (hstalled : isStalled s = false → isStalled t = false) (hcommit : t.table.commitPending = s.table.commitPending)
    (hqueue : t.applyq.queue = s.applyq.queue) (hengine : t.applyq.engine = s.applyq.engine) (h : RoleEmpty s) :
    RoleEmpty t := by
  constructor
  · intro hr
    obtain ⟨h1, h2, h3, h4, h5, h6, h7⟩ := h.stream (hpart ▸ hr)
    have hsame := hcopy h4
    exact ⟨hentries h1, hsame ▸ h2, hsame ▸ h3, hsame ▸ h4, hcapture ▸ h5, hstalled h6, hcommit ▸ h7⟩
  · intro hr
    obtain ⟨h1, h2, h3⟩ := h.queue (hpart ▸ hr)
    exact ⟨hqueue ▸ h1, hengine ▸ h2, hpart ▸ h3⟩

/-- The blocks that the condition looks at are the same. -/
abbrev SameStream (s t : State) : Prop :=
  t.part = s.part ∧ t.journal = s.journal ∧ t.copy = s.copy ∧ t.capture = s.capture ∧ t.host = s.host ∧
    t.table.commitPending = s.table.commitPending ∧ t.applyq = s.applyq

theorem roleEmpty_of_same {s t : State} (hsame : SameStream s t) (h : RoleEmpty s) : RoleEmpty t := by
  obtain ⟨hpart, hjournal, hcopy, hcapture, hhost, hcommit, happlyq⟩ := hsame
  have hstalled : isStalled t = isStalled s := by unfold isStalled; rw [hhost]
  exact roleEmpty_mono hpart (by rw [hjournal]; exact id) (fun _ => hcopy) hcapture (by rw [hstalled]; exact id)
    hcommit (by rw [happlyq]) (by rw [happlyq]) h

/-- On a PRIMARY only the apply queue is empty. -/
theorem roleEmpty_of_primary {s t : State} (hrole : s.part.role = .primary) (hpart : t.part = s.part)
    (happlyq : t.applyq = s.applyq) (h : RoleEmpty s) : RoleEmpty t := by
  constructor
  · exact fun hr => absurd (hpart ▸ hrole) hr
  · intro hr
    obtain ⟨h1, h2, h3⟩ := h.queue (by simp [hrole])
    exact ⟨happlyq ▸ h1, happlyq ▸ h2, hpart ▸ h3⟩

/-- On a SECONDARY only the stream is empty. -/
theorem roleEmpty_of_secondary {s : State} (hrole : s.part.role = .secondary) (h : NoStream s) : RoleEmpty s :=
  ⟨fun _ => h, fun hr => absurd hrole hr⟩

theorem noStream_mono {s t : State} (hentries : s.journal.entries = [] → t.journal.entries = [])
    (hcopy : s.copy.engine = .idle → t.copy = s.copy) (hcapture : t.capture = s.capture)
    (hstalled : isStalled s = false → isStalled t = false) (hcommit : t.table.commitPending = s.table.commitPending)
    (h : NoStream s) : NoStream t := by
  obtain ⟨h1, h2, h3, h4, h5, h6, h7⟩ := h
  have hsame := hcopy h4
  exact ⟨hentries h1, hsame ▸ h2, hsame ▸ h3, hsame ▸ h4, hcapture ▸ h5, hstalled h6, hcommit ▸ h7⟩

/-! ## Guards that only a PRIMARY, or only a SECONDARY, passes -/

theorem role_of_captured {s : State} {w : HostWrite} {i : WindowId} (h : classify s w = .captured i) :
    s.part.role = .primary := by
  unfold classify at h
  split at h
  · cases h
  · split at h
    · cases h
    · cases h
    · cases h
    · assumption

theorem role_of_copyMayRun {s : State} (h : copyMayRun s = true) : s.part.role = .primary := by
  simp only [copyMayRun, Bool.and_eq_true, beq_iff_eq] at h
  exact h.1.1

section
variable {s : State} (h : RoleEmpty s)
include h

theorem role_of_stream (hs : ¬NoStream s) : s.part.role = .primary := by
  by_contra hr
  exact hs (h.stream hr)

theorem role_of_queue (hq : ¬NoQueue s) : s.part.role = .secondary := by
  by_contra hr
  exact hq (h.queue hr)

end

/-! ## Shared operations -/

theorem heldRewindTaken_entries_nil (j : Journal) (h : j.entries = []) : (heldRewindTaken j).entries = [] := by
  unfold heldRewindTaken
  split
  · exact h
  · dsimp only
    (repeat' split) <;> simp [h]

/-- An ABORT leaves an empty journal empty. -/
theorem abortFrame_entries_nil (s : State) (h : s.journal.entries = []) : (abortFrame s).journal.entries = [] := by
  rw [abortFrame_journal]
  split
  · exact h
  · exact heldRewindTaken_entries_nil _ h

theorem leaveUp_copy_of_idle (r : LossReason) (s : State) (h : s.copy.engine = .idle) :
    (leaveUp r s).copy = s.copy := by
  simp only [leaveUp]
  split <;> simp_all

theorem isStalled_of_host {s t : State} (h : t.host = s.host) : isStalled t = isStalled s := by
  unfold isStalled
  rw [h]

theorem roleEmpty_leaveUp (r : LossReason) {s : State} (h : RoleEmpty s) : RoleEmpty (leaveUp r s) :=
  roleEmpty_mono (by simp) (fun he => by simpa using abortFrame_entries_nil s he) (leaveUp_copy_of_idle r s)
    (by simp) (by simp [isStalled]) (by simp) (by simp) (by simp) h

theorem roleEmpty_loseSession (r : LossReason) {s : State} (h : RoleEmpty s) : RoleEmpty (loseSession r s) :=
  roleEmpty_mono (s := leaveUp r s) (by simp [loseSession]) (by simp [loseSession]) (by simp [loseSession])
    (by simp [loseSession]) (by simp [isStalled]) (by simp) (by simp) (by simp) (roleEmpty_leaveUp r h)

theorem roleEmpty_enterFault (c : FaultCause) {s : State} (h : RoleEmpty s) : RoleEmpty (enterFault c s) := by
  have hfaulted : ∀ {u}, RoleEmpty u → RoleEmpty (faulted c u) := fun hu =>
    roleEmpty_mono (by simp) (by simp) (by simp) (by simp) (by simp [isStalled]) (by simp) (by simp) (by simp) hu
  by_cases hup : s.session.state = .up
  · exact enterFault_of_up c s hup ▸ hfaulted (roleEmpty_leaveUp .fault h)
  · exact enterFault_of_not_up c s hup ▸ hfaulted h

theorem roleEmpty_enterClosing {s : State} (h : RoleEmpty s) : RoleEmpty (enterClosing s) :=
  roleEmpty_mono (by simp) (fun he => by simpa [enterClosing] using abortFrame_entries_nil s he) (by simp)
    (by simp) (by simp [isStalled]) (by simp) (by simp) (by simp) h

theorem roleEmpty_enterOff {s : State} (h : RoleEmpty s) : RoleEmpty (enterOff s) :=
  roleEmpty_mono (by simp) (fun he => by simpa [enterOff] using abortFrame_entries_nil s he) (by simp)
    (by simp) (by simp [isStalled]) (by simp) (by simp) (by simp) h

theorem roleEmpty_restart (r : RestartReason) {s : State} (hrole : s.part.role = .primary) (h : RoleEmpty s) :
    RoleEmpty (restart r s) := roleEmpty_of_primary hrole (by simp) (by simp) h

/-- A SYNCED entry is owed by a PRIMARY only. -/
theorem roleEmpty_offerSynced {s : State} (h : RoleEmpty s) : RoleEmpty (offerSynced s) := by
  by_cases howed : s.copy.syncOwed = true
  · exact roleEmpty_of_primary (role_of_stream h fun hn => by simp [hn.syncOwed] at howed) (by simp) (by simp) h
  · have hsame : offerSynced s = s := by simp [offerSynced, syncedDue, howed]
    exact hsame.symm ▸ h

/-- A commit is pending on a PRIMARY only. -/
theorem roleEmpty_offerCommit {s : State} (h : RoleEmpty s) : RoleEmpty (offerCommit s) := by
  obtain heq | ⟨hpending, _, heq⟩ := offerCommit_cases s
  · exact heq.symm ▸ h
  · exact heq ▸ roleEmpty_of_primary (role_of_stream h fun hn => by simp [hn.uncommitted] at hpending) (by simp)
      (by simp) h

/-- A promotion ends with the queue empty and the part PRIMARY. -/
theorem roleEmpty_completePromotion {s : State} (hcount : s.applyq.count = 0) : RoleEmpty (completePromotion s) := by
  obtain ⟨hqueue, hengine⟩ := (applyCount_eq_zero _).mp hcount
  constructor
  · exact fun hr => absurd (by simp) hr
  · exact fun _ => ⟨by simpa using hqueue, by simpa using hengine, by simp⟩

theorem roleEmpty_endPromotion {s : State} (h : RoleEmpty s) : RoleEmpty (endPromotion s) := by
  obtain heq | ⟨_, hcount, heq⟩ := endPromotion_cases s
  · exact heq.symm ▸ h
  · exact heq ▸ roleEmpty_completePromotion hcount

theorem roleEmpty_finishEntry (q : Seq) {s : State} (hrole : s.part.role = .secondary) (h : RoleEmpty s) :
    RoleEmpty (finishEntry q s) :=
  roleEmpty_endPromotion (s := completeEntry q s) (roleEmpty_of_secondary hrole
    (noStream_mono (s := s) id (fun _ => rfl) rfl id rfl (h.stream (by simp [hrole]))))

/-! ## The arbiter -/

theorem roleEmpty_grantHost {s : State} (h : RoleEmpty s) : RoleEmpty (grantHost s) := by
  have hsame : ∀ t, t.part = s.part → t.journal = s.journal → t.copy = s.copy → t.capture = s.capture →
      isStalled t = false → t.table = s.table → t.applyq = s.applyq → RoleEmpty t :=
    fun t h1 h2 h3 h4 h5 h6 h7 => roleEmpty_mono h1 (by rw [h2]; exact id) (fun _ => h3) h4 (fun _ => h5) (by rw [h6])
      (by rw [h7]) (by rw [h7]) h
  obtain ⟨_, heq⟩ | ⟨a, p, _, heq⟩ | ⟨w, p, _, heq | heq | ⟨i, hcaptured, heq⟩ | ⟨_, heq⟩⟩ := grantHost_cases s
  · exact heq.symm ▸ h
  · exact heq ▸ hsame _ rfl rfl rfl rfl rfl rfl rfl
  · exact heq ▸ hsame _ rfl rfl rfl rfl rfl rfl rfl
  · exact heq ▸ hsame _ (by simp) (by simp) (by simp) (by simp) rfl (by simp) (by simp)
  · exact heq ▸ roleEmpty_of_primary (role_of_captured hcaptured) (by simp) (by simp) h
  · exact heq ▸ hsame _ (by simp) (by simp) (by simp) (by simp) rfl (by simp) (by simp)

theorem roleEmpty_grantEngine {s : State} (h : RoleEmpty s) : RoleEmpty (grantEngine s) := by
  unfold grantEngine
  split
  · rename_i e he
    have hrole := role_of_queue h fun hn => by simp [hn.engine] at he
    obtain ⟨h1, h2, h3, h4, h5, h6, h7⟩ := h.stream (by simp [hrole])
    exact roleEmpty_of_secondary hrole ⟨h1, h2, h3, h4, h5, h6, h7⟩
  · split
    · rename_i he
      exact roleEmpty_of_primary (s := s) (role_of_stream h fun hn => by simp [hn.engine] at he) rfl rfl h
    · exact h

theorem roleEmpty_arbitrate (s : State) (h : RoleEmpty s) : RoleEmpty (arbitrate s) :=
  arbitrate_keeps (P := RoleEmpty) (fun u => grantOnce_keeps (P := RoleEmpty) u roleEmpty_grantHost
    roleEmpty_grantEngine) s h

/-! ## The commands -/

theorem discardJournal_entries (s : State) : (discardJournal s).journal.entries = [] := by
  simp [discardJournal_journal]

theorem isStalled_endHold (o : HoldOutcome) (s : State) (h : isStalled s = false) :
    isStalled (endHold o s) = false := by
  unfold endHold completeHeld
  split
  · rfl
  · exact h

theorem isStalled_discardJournal (s : State) (h : isStalled s = false) : isStalled (discardJournal s) = false := by
  simp only [discardJournal]
  split
  · exact isStalled_endHold .abandoned _ h
  · exact h

/-- A soft reset empties the journal and the queued list, and ends a stall (R195). -/
theorem roleEmpty_softReset {s : State} (h : RoleEmpty s) : RoleEmpty (softReset s) := by
  have hbegun : RoleEmpty (softResetBegun s) := by
    constructor
    · intro hr
      obtain ⟨_, h2, h3, h4, _, h6, _⟩ := h.stream (by simpa using hr)
      have hcopy : (softResetCopy s).copy = s.copy := by simp [softResetCopy, h4]
      refine ⟨by simp [softResetBegun_journal], by simpa [hcopy] using h2, by simpa [hcopy] using h3,
        by simpa [hcopy] using h4, by simp, ?_, by simp⟩
      rw [isStalled_of_host (s := softResetHost (discardJournal s)) (by simp)]
      unfold softResetHost
      split
      · rfl
      · exact isStalled_discardJournal s h6
    · intro hr
      exact ⟨by simp, by simpa using (h.queue (by simpa using hr)).engine, by simp⟩
  rw [softReset_eq]
  refine roleEmpty_arbitrate _ ?_
  exact roleEmpty_mono (s := offerSynced (softResetBegun s)) rfl id (fun _ => rfl) rfl id rfl rfl rfl
    (roleEmpty_offerSynced hbegun)

theorem roleEmpty_commitTable (args : List Byte) {s : State} (h : RoleEmpty s) :
    RoleEmpty (commitTableEffect args s).state := by
  unfold commitTableEffect
  repeat' split
  case isFalse.isFalse.isFalse.isFalse =>
    rename_i hsecondary _ _ hdetached
    have hrole : s.part.role = .primary := by cases hr : s.part.role <;> simp_all
    exact roleEmpty_offerCommit (roleEmpty_of_primary hrole rfl rfl h)
  case isFalse.isFalse.isFalse.isTrue =>
    exact roleEmpty_mono (s := s) rfl id (fun _ => rfl) rfl id rfl rfl rfl h
  all_goals exact h

/-- Leaving a role empties what went with it; the queue of a SECONDARY that leaves has drained (R177, R178). -/
theorem roleEmpty_changeRole (r : Role) {s : State} (h : RoleEmpty s) (hpending : s.part.promotionPending = false)
    (hcommit : s.table.commitPending = false) (hqueue : s.applyq.queue = [] ∧ s.applyq.engine = .idle) :
    RoleEmpty (changeRole r s) := by
  have hleft : NoStream (leaveRole s) := by
    unfold leaveRole
    cases hr : s.part.role with
    | detached => exact h.stream (by simp [hr])
    | secondary => exact noStream_mono (s := s) id (fun _ => rfl) rfl id rfl (h.stream (by simp [hr]))
    | primary =>
      refine ⟨by simp [leavePrimary, discardJournal_entries], by simp [leavePrimary], by simp [leavePrimary],
        by simp [leavePrimary], by simp [leavePrimary], ?_, by simpa using hcommit⟩
      rw [isStalled_of_host (s := endStall (discardJournal s)) (by simp [leavePrimary])]
      unfold endStall
      split
      · rfl
      · unfold isStalled
        split
        · simp_all
        · rfl
  have hpending' : (leaveRole s).part.promotionPending = false := by simpa using hpending
  have hgone : NoStream (clearRejectRestarts ((leaveRole s).setPart
      { (leaveRole s).part with role := r, forced := false })) :=
    noStream_mono (s := leaveRole s) id (fun _ => rfl) rfl id rfl hleft
  cases r with
  | detached =>
    refine ⟨fun _ => hgone, fun _ => ⟨?_, ?_, hpending'⟩⟩
    · simpa [changeRole] using hqueue.1
    · simpa [changeRole] using hqueue.2
  | secondary =>
    refine roleEmpty_of_secondary rfl ?_
    exact noStream_mono (s := clearRejectRestarts ((leaveRole s).setPart
      { (leaveRole s).part with role := .secondary, forced := false })) id (fun _ => rfl) rfl id rfl hgone
  | primary =>
    refine ⟨fun hr => absurd (by simp [changeRole]) hr, fun _ => ⟨?_, ?_, ?_⟩⟩
    · simpa [changeRole] using hqueue.1
    · simpa [changeRole] using hqueue.2
    · simpa [changeRole] using hpending'

theorem roleEmpty_setRole (args : List Byte) {s : State} (h : RoleEmpty s) :
    RoleEmpty (setRoleEffect args s).state := by
  unfold setRoleEffect
  repeat' split
  case h_2.isFalse.isFalse.isFalse.isFalse.isFalse.isFalse =>
    rename_i r _ _ hcommit hpending hdrained _ hrole
    have hempty : s.applyq.queue = [] ∧ s.applyq.engine = .idle := by
      by_cases hs : s.part.role = .secondary
      · by_contra hne
        exact hdrained ⟨hs, fun hr => hrole (hr.trans hs.symm), fun hc => hne ((applyCount_eq_zero _).mp hc)⟩
      · exact ⟨(h.queue hs).queue, (h.queue hs).engine⟩
    exact roleEmpty_changeRole r h (by simpa using hpending) (by simpa using hcommit) hempty
  case h_2.isFalse.isFalse.isFalse.isFalse.isFalse.isTrue =>
    exact roleEmpty_mono (s := s) rfl id (fun _ => rfl) rfl id rfl rfl rfl h
  all_goals exact h

theorem roleEmpty_promote (args : List Byte) {s : State} (h : RoleEmpty s) :
    RoleEmpty (promoteEffect args s).state := by
  unfold promoteEffect
  repeat' split
  case h_2.isFalse.isFalse.isFalse.isFalse =>
    rename_i hrole _ _ _
    dsimp only
    split
    · exact roleEmpty_completePromotion ‹_›
    · have hsecondary : s.part.role = .secondary := not_not.mp hrole
      exact roleEmpty_of_secondary hsecondary
        (noStream_mono (s := s) id (fun _ => rfl) rfl id rfl (h.stream (by simp [hsecondary])))
  all_goals exact h

theorem roleEmpty_linkDisable (args : List Byte) {s : State} (h : RoleEmpty s) :
    RoleEmpty (linkDisableEffect args s).state := by
  unfold linkDisableEffect
  cases s.session.state with
  | off => exact h
  | seek => exact roleEmpty_enterClosing h
  | up => exact roleEmpty_enterClosing (roleEmpty_leaveUp .disabled h)
  | closing => exact h
  | fault => exact roleEmpty_enterOff h

theorem roleEmpty_applyTake {s : State} (h : RoleEmpty s) : RoleEmpty (applyTake s) := by
  obtain heq | ⟨e, rest, _, hqueue, heq⟩ := applyTake_cases s
  · exact heq.symm ▸ h
  · have hrole := role_of_queue h fun hn => by simp [hn.queue] at hqueue
    rw [heq]
    generalize hu : s.setApplyq { s.applyq with queue := rest } = u
    have hstream : NoStream u :=
      hu ▸ noStream_mono (s := s) id (fun _ => rfl) rfl id rfl (h.stream (by simp [hrole]))
    have hsecondary : u.part.role = .secondary := hu ▸ hrole
    have hfinish : ∀ v q, v.part = u.part → v.journal = u.journal → v.copy = u.copy → v.capture = u.capture →
        v.host = u.host → v.table.commitPending = u.table.commitPending → RoleEmpty (finishEntry q v) :=
      fun v q h1 h2 h3 h4 h5 h6 => roleEmpty_finishEntry q (h1 ▸ hsecondary)
        (roleEmpty_of_secondary (h1 ▸ hsecondary) (noStream_mono (by rw [h2]; exact id) (fun _ => h3) h4
          (by rw [isStalled_of_host h5]; exact id) h6 hstream))
    obtain heq | heq | ⟨records, complete, _, _, heq⟩ | ⟨g, _, heq⟩ | ⟨g, _, heq⟩ := takeEntry_cases e u
    · exact heq ▸ hfinish _ _ (by simp) (by simp) (by simp) (by simp) (by simp) (by simp)
    · exact heq ▸ roleEmpty_arbitrate _ (roleEmpty_of_secondary hsecondary
        (noStream_mono (s := u) id (fun _ => rfl) rfl id rfl hstream))
    · exact heq ▸ hfinish _ _ (by simp) (by simp) (by simp) (by simp) (by simp) (by simp [applyTable])
    · exact heq ▸ hfinish _ _ (by simp) (by simp) (by simp) (by simp) (by simp) (by simp)
    · exact heq ▸ hfinish _ _ (by simp) (by simp) (by simp) (by simp) (by simp) (by simp)

/-- A HELLO at a PRIMARY leaves the apply queue. -/
theorem judgeHello_applyq_of_primary (f : HelloFrame) (s : State) (hrole : s.part.role = .primary) :
    (judgeHello f s).applyq = s.applyq := by
  unfold judgeHello
  split
  · simp
  · rw [hrole]
    dsimp only
    split <;> simp

/-- A HELLO at a SECONDARY leaves the stream. -/
theorem noStream_judgeHello (f : HelloFrame) {s : State} (hrole : s.part.role = .secondary) (h : NoStream s) :
    NoStream (judgeHello f s) := by
  have haccept : ∀ u, u.part.role = .secondary → NoStream u → NoStream (acceptHello f u) := by
    intro u hu hn
    have hasked : ∀ v, v.part = u.part → v.journal = u.journal → v.copy = u.copy → v.capture = u.capture →
        v.host = u.host → v.table = u.table → NoStream (if f.seen then enterUp f v else v) := by
      intro v h1 h2 h3 h4 h5 h6
      have hv : NoStream v := noStream_mono (by rw [h2]; exact id) (fun _ => h3) h4
        (by rw [isStalled_of_host h5]; exact id) (by rw [h6]) hn
      split
      · rw [enterUp_of_secondary f v (h1 ▸ hu)]
        exact noStream_mono (s := v) id (fun _ => rfl) rfl id rfl hv
      · exact hv
    unfold acceptHello
    dsimp only
    refine hasked _ ?_ ?_ ?_ ?_ ?_ ?_ <;> (split <;> rfl)
  unfold judgeHello
  split
  · exact haccept s hrole h
  · rw [hrole]
    dsimp only
    split
    · exact haccept (adopt f s) hrole (noStream_mono (s := s) id (fun _ => rfl) rfl id rfl h)
    · exact h

theorem roleEmpty_judgeHello (f : HelloFrame) {s : State} (h : RoleEmpty s) (hrole : s.part.role ≠ .detached) :
    RoleEmpty (judgeHello f s) := by
  cases hr : s.part.role with
  | primary => exact roleEmpty_of_primary hr (by simp) (judgeHello_applyq_of_primary f s hr) h
  | secondary =>
    exact roleEmpty_of_secondary (by simpa using hr) (noStream_judgeHello f hr (h.stream (by simp [hr])))
  | detached => exact absurd hr hrole

/-- A HELLO reaches a PRIMARY or a SECONDARY: a DETACHED part is OFF (R103, R176). -/
theorem roleEmpty_receiveHello (f : HelloFrame) {s : State} (h : RoleEmpty s) (hsession : SessionSound s)
    (hd : dispatching s.session.state = true) : RoleEmpty (receiveHello f s) := by
  have hrole : s.part.role ≠ .detached := by
    intro hr
    have hoff := (sessionSound_iff s).mp hsession |>.detached hr
    simp [hoff, dispatching] at hd
  unfold receiveHello
  split
  · exact roleEmpty_enterFault _ h
  · split
    · exact roleEmpty_enterFault _ h
    · split
      · split
        · refine roleEmpty_mono (s := s) ?_ ?_ ?_ ?_ ?_ ?_ ?_ ?_ h <;> simp [isStalled]
        · exact roleEmpty_judgeHello f (roleEmpty_loseSession .peerHello h) (by simpa using hrole)
      · exact roleEmpty_judgeHello f h hrole

theorem roleEmpty_kept : KeptByCommands (fun s => RoleEmpty s ∧ SessionSound s) := by
  have hsession := sessionSound_kept
  constructor
  case powerReset =>
    exact fun n s h => ⟨⟨fun _ => ⟨rfl, fun _ => by simp [powerReset, State.reset], rfl, rfl, rfl, rfl, rfl⟩,
      fun _ => ⟨rfl, rfl, rfl⟩⟩, hsession.powerReset n s h.2⟩
  case softReset => exact fun s h => ⟨roleEmpty_softReset h.1, hsession.softReset s h.2⟩
  case commitTable => exact fun args s h => ⟨roleEmpty_commitTable args h.1, hsession.commitTable args s h.2⟩
  case setRole => exact fun args s h => ⟨roleEmpty_setRole args h.1, hsession.setRole args s h.2⟩
  case promote => exact fun args s h => ⟨roleEmpty_promote args h.1, hsession.promote args s h.2⟩
  case linkDisable => exact fun args s h => ⟨roleEmpty_linkDisable args h.1, hsession.linkDisable args s h.2⟩
  case startResync =>
    refine fun args s h => ⟨?_, hsession.startResync args s h.2⟩
    unfold startResyncEffect
    split
    · exact roleEmpty_restart .command ‹_› h.1
    · exact h.1
  case presentTransaction =>
    refine fun txn s h => ⟨?_, hsession.presentTransaction txn s h.2⟩
    unfold presentTransaction
    split
    · exact roleEmpty_arbitrate _ (roleEmpty_mono (s := s) rfl id (fun _ => rfl) rfl (fun _ => rfl) rfl rfl rfl h.1)
    · exact h.1
  case endHostRead =>
    refine fun s h => ⟨?_, hsession.endHostRead s h.2⟩
    unfold endHostRead
    split
    · exact roleEmpty_arbitrate _ (roleEmpty_mono (s := s) rfl id (fun _ => rfl) rfl (fun _ => rfl) rfl rfl rfl h.1)
    · exact h.1
  case endHostWrite =>
    refine fun s h => ⟨?_, hsession.endHostWrite s h.2⟩
    unfold endHostWrite
    split
    · refine roleEmpty_arbitrate _ ?_
      split <;> exact roleEmpty_mono (s := s) rfl id (fun _ => rfl) rfl (fun _ => rfl) rfl rfl rfl h.1
    · exact h.1
  case represent =>
    refine fun s h => ⟨roleEmpty_arbitrate _ ?_, hsession.represent s h.2⟩
    unfold represent
    split
    · exact roleEmpty_mono (s := s) rfl id (fun _ => rfl) rfl (fun _ => rfl) rfl rfl rfl h.1
    · exact h.1
  case endApply =>
    refine fun s h => ⟨?_, hsession.endApply s h.2⟩
    unfold endApply
    split
    · rename_i e _ he
      have hrole := role_of_queue h.1 fun hn => by simp [hn.engine] at he
      exact roleEmpty_arbitrate _ (roleEmpty_finishEntry e.seq hrole
        (roleEmpty_mono (s := s) rfl id (fun _ => rfl) rfl id rfl rfl rfl h.1))
    · exact h.1
  case endBurst =>
    refine fun w c v s t h hport hengine hend => ⟨?_, hsession.endBurst w c v s t h.2 hport hengine hend⟩
    have hrole := role_of_stream h.1 fun hn => by simp [hn.engine] at hengine
    obtain rfl | ⟨_, _, rfl⟩ := endBurst_cases w c v s t hend
    · exact roleEmpty_arbitrate _ (roleEmpty_of_primary hrole (by simp) (by simp) h.1)
    · exact roleEmpty_arbitrate _ (roleEmpty_of_primary hrole (by simp) (by simp) h.1)
  case applyTake => exact fun s h => ⟨roleEmpty_applyTake h.1, hsession.applyTake s h.2⟩
  case copyPick =>
    refine fun s h => ⟨?_, hsession.copyPick s h.2⟩
    unfold copyPick
    split
    · rename_i hrun
      split
      · exact roleEmpty_of_primary (s := s) (role_of_copyMayRun hrun.2.1) rfl rfl h.1
      · exact h.1
    · exact h.1
  case copyRequest =>
    refine fun s h => ⟨?_, hsession.copyRequest s h.2⟩
    unfold copyRequest
    split
    · rename_i hrun
      split
      · exact roleEmpty_arbitrate _ (roleEmpty_of_primary (s := s) (role_of_copyMayRun hrun.2) rfl rfl h.1)
      · exact h.1
    · exact h.1
  case offerCommit => exact fun s h => ⟨roleEmpty_offerCommit h.1, hsession.offerCommit s h.2⟩
  case offerSynced => exact fun s h => ⟨roleEmpty_offerSynced h.1, hsession.offerSynced s h.2⟩
  case endPromotion => exact fun s h => ⟨roleEmpty_endPromotion h.1, hsession.endPromotion s h.2⟩
  case sealAge =>
    refine fun s h => ⟨?_, hsession.sealAge s h.2⟩
    unfold sealAge
    split
    · rename_i hruns
      exact roleEmpty_of_primary (role_of_stream h.1 fun hn => by simp [hn.capture] at hruns) (by simp) (by simp) h.1
    · exact h.1
  case stallExpiry =>
    refine fun s h => ⟨?_, hsession.stallExpiry s h.2⟩
    unfold stallExpiry
    split
    · rename_i hruns
      exact roleEmpty_restart .stall (role_of_stream h.1 fun hn => by simp [hn.capture] at hruns) h.1
    · exact h.1
  case holdExpiry =>
    refine fun s h => ⟨roleEmpty_mono (by simp) ?_ (by simp) (by simp) ?_ (by simp) (by simp) (by simp) h.1,
      hsession.holdExpiry s h.2⟩
    · intro hnil
      simp only [holdExpiry]
      split <;> simp [hnil]
    · intro hs
      simp only [holdExpiry]
      split
      · exact isStalled_endHold .timeout (s.setJournal { s.journal with
          entries := s.journal.entries.map (fun e => { e with held := false }) }) hs
      · exact hs
  case ackExpiry =>
    refine fun s h => ⟨?_, hsession.ackExpiry s h.2⟩
    by_cases hruns : s.sender.ackTimer.isSome = true
    · obtain ⟨_, hrole⟩ := (sessionSound_iff s).mp h.2 |>.ack hruns
      exact roleEmpty_of_primary hrole (by simp) (by simp) h.1
    · have hsame : ackExpiry s = s := by simp [ackExpiry, hruns]
      exact hsame.symm ▸ h.1
  case silenceExpiry =>
    refine fun s h => ⟨?_, hsession.silenceExpiry s h.2⟩
    unfold silenceExpiry
    split
    · exact roleEmpty_loseSession .silence h.1
    · exact h.1
  case receiveHello =>
    exact fun f s hf hd h => ⟨roleEmpty_receiveHello f h.1 h.2 hd, hsession.receiveHello f s hf hd h.2⟩
  case receiveBye =>
    refine fun s hd h => ⟨?_, hsession.receiveBye s hd h.2⟩
    unfold receiveBye
    split
    · exact roleEmpty_loseSession .peerBye h.1
    · exact h.1
  case receiveLink =>
    refine fun f s h => ⟨?_, hsession.receiveLink f s h.2⟩
    by_cases hrole : s.part.role = .primary
    · exact roleEmpty_of_primary hrole (by simp) (by simp) h.1
    · have hsame : receiveLink f s = s := by simp [receiveLink, hrole]
      exact hsame.symm ▸ h.1
  case receiveData =>
    refine fun f s hf h => ⟨?_, hsession.receiveData f s hf h.2⟩
    by_cases hrole : s.part.role = .secondary
    · refine roleEmpty_of_secondary (by simpa using hrole) (noStream_mono ?_ ?_ ?_ ?_ ?_
        (h.1.stream (by simp [hrole])))
      all_goals simp [isStalled]
    · have hsame : receiveData f s = s := by simp [receiveData, hrole]
      exact hsame.symm ▸ h.1
  case endDataFrame =>
    refine fun s h => ⟨?_, hsession.endDataFrame s h.2⟩
    cases hd : sendingData s with
    | false => exact (endDataFrame_of_not_sending s hd).symm ▸ h.1
    | true =>
      obtain ⟨_, hrole⟩ := (sessionSound_iff s).mp h.2 |>.data hd
      exact roleEmpty_of_primary hrole (by simp) (by simp) h.1
  case endByeDisabled =>
    refine fun s h => ⟨?_, hsession.endByeDisabled s h.2⟩
    unfold endByeDisabled
    split
    · exact roleEmpty_enterOff (roleEmpty_mono (s := s) rfl id (fun _ => rfl) rfl id rfl rfl rfl h.1)
    · exact h.1
  case setMgmt =>
    exact fun s x h => ⟨roleEmpty_of_same (by simp [SameStream]) h.1, hsession.setMgmt s x h.2⟩
  case setPending =>
    exact fun s x h => ⟨roleEmpty_of_same (by simp [SameStream]) h.1, hsession.setPending s x h.2⟩
  case setInReset =>
    exact fun s x h => ⟨roleEmpty_of_same (by simp [SameStream]) h.1, hsession.setInReset s x h.2⟩
  case setGood =>
    exact fun s x h => ⟨roleEmpty_of_same (by simp [SameStream]) h.1, hsession.setGood s x h.2⟩
  case setAligned =>
    exact fun s h => ⟨roleEmpty_of_same (by simp [SameStream]) h.1, hsession.setAligned s h.2⟩
  case clearEvents =>
    exact fun args s h => ⟨roleEmpty_of_same (by simp [SameStream]) h.1, hsession.clearEvents args s h.2⟩
  case setEnables =>
    exact fun args s h => ⟨roleEmpty_of_same (by simp [SameStream]) h.1, hsession.setEnables args s h.2⟩
  case clearCounters =>
    exact fun args s h => ⟨roleEmpty_of_same (by simp [SameStream]) h.1, hsession.clearCounters args s h.2⟩
  case setConfig =>
    exact fun args s h => ⟨roleEmpty_of_same (by simp [SameStream]) h.1, hsession.setConfig args s h.2⟩
  case linkEnable =>
    exact fun args s h => ⟨roleEmpty_of_same (by simp [SameStream]) h.1, hsession.linkEnable args s h.2⟩
  case helloExpiry =>
    exact fun s h => ⟨roleEmpty_of_same (by simp [SameStream]) h.1, hsession.helloExpiry s h.2⟩
  case statusExpiry =>
    exact fun s h => ⟨roleEmpty_of_same (by simp [SameStream]) h.1, hsession.statusExpiry s h.2⟩
  case receiveSymbol =>
    exact fun sym s h => ⟨roleEmpty_of_same (by simp [SameStream]) h.1, hsession.receiveSymbol sym s h.2⟩
  case startFrame =>
    exact fun s h => ⟨roleEmpty_of_same (by simp [SameStream]) h.1, hsession.startFrame s h.2⟩
  case endControlFrame =>
    exact fun s h => ⟨roleEmpty_of_same (by simp [SameStream]) h.1, hsession.endControlFrame s h.2⟩
  case endByeFault =>
    exact fun s h => ⟨roleEmpty_of_same (by simp [SameStream]) h.1, hsession.endByeFault s h.2⟩
  case writeStagedWindow =>
    refine fun args s h => ⟨roleEmpty_of_same ⟨by simp, by simp, by simp, by simp, by simp, ?_, by simp⟩ h.1,
      hsession.writeStagedWindow args s h.2⟩
    simp only [writeStagedWindowEffect]
    (repeat' split) <;> simp
  case copyActiveToStaged =>
    refine fun args s h => ⟨roleEmpty_of_same ⟨by simp, by simp, by simp, by simp, by simp, ?_, by simp⟩ h.1,
      hsession.copyActiveToStaged args s h.2⟩
    unfold copyActiveToStagedEffect
    split <;> simp

/-- Settles O54: what a role gives no use for is emptied when the part leaves the role that used it, and every
operation that fills it is guarded by that role. -/
theorem roleStaysSound : Obligations.RoleStaysSound := by
  intro s t ⟨hrole, hsession⟩ hstep
  obtain ⟨hempty, hsound⟩ := step_keeps roleEmpty_kept ⟨((roleSound_iff s).mp hrole).1, hsession⟩ hstep
  exact (roleSound_iff t).mpr ⟨hempty, (sessionSound_iff t).mp hsound |>.detached⟩

end Sys2Proof.Proofs
end

section
/-! The copy map and the active bank (R163, R166, R167, R171, R172). -/

namespace Sys2Proof.Proofs

open Sys2Proof.Machine

/-! ## What the shared operations do to the copy states -/

@[simp] theorem withdrawCopy_map (s : State) :
    (withdrawCopy s).copy.states = s.copy.states ∧ (withdrawCopy s).copy.syncOwed = s.copy.syncOwed := by
  unfold withdrawCopy
  (repeat' split) <;> simp

@[simp] theorem append_map (c : Content) (s : State) :
    (append c s).copy.states = s.copy.states ∧ (append c s).copy.syncOwed = s.copy.syncOwed := by
  simp [append]

@[simp] theorem openEntry_map (r : Run) (s : State) :
    (openEntry r s).copy.states = s.copy.states ∧ (openEntry r s).copy.syncOwed = s.copy.syncOwed := by
  simp [openEntry]

@[simp] theorem leaveUp_map (r : LossReason) (s : State) :
    (leaveUp r s).copy.states = s.copy.states ∧ (leaveUp r s).copy.syncOwed = s.copy.syncOwed := by
  simp only [leaveUp]
  split <;> simp

@[simp] theorem loseSession_map (r : LossReason) (s : State) :
    (loseSession r s).copy.states = s.copy.states ∧ (loseSession r s).copy.syncOwed = s.copy.syncOwed := by
  simp [loseSession]

@[simp] theorem enterFault_map (c : FaultCause) (s : State) :
    (enterFault c s).copy.states = s.copy.states ∧ (enterFault c s).copy.syncOwed = s.copy.syncOwed := by
  by_cases h : s.session.state = .up
  · simp [enterFault_of_up c s h]
  · simp [enterFault_of_not_up c s h]

@[simp] theorem restartSession_map (s : State) :
    (restartSession s).copy.states = s.copy.states ∧ (restartSession s).copy.syncOwed = s.copy.syncOwed := by
  unfold restartSession
  split <;> simp

@[simp] theorem offerSynced_states (s : State) : (offerSynced s).copy.states = s.copy.states := by
  simp only [offerSynced]
  split <;> simp

@[simp] theorem restart_states (r : RestartReason) (s : State) :
    (restart r s).copy.states = restartStates s.table.active := by
  simp [restart_eq]

@[simp] theorem completeCommit_states (s : State) :
    (completeCommit s).copy.states = identityRule s.table.active s.table.staged s.copy.states := by
  simp [completeCommit]

@[simp] theorem grantEngine_map (s : State) :
    (grantEngine s).copy.states = s.copy.states ∧ (grantEngine s).copy.syncOwed = s.copy.syncOwed := by
  simp only [grantEngine]
  (repeat' split) <;> simp

@[simp] theorem softResetCopy_map (s : State) :
    (softResetCopy s).copy.states = s.copy.states ∧ (softResetCopy s).copy.syncOwed = s.copy.syncOwed := by
  simp only [softResetCopy]
  split <;> simp

/-! ## Copy states that go with a bank -/

/-- The copy states go with the records of a bank, and at most one window is COPYING. -/
structure StatesFit (b : Bank) (states : Vector CopyState 16) : Prop where
  fits : ∀ i : WindowId, copyStateSound b[i] states[i] = true
  single : ∀ i j : WindowId, states[i].isCopying = true → states[j].isCopying = true → i = j

/-- A restart leaves no window COPYING (R172). -/
theorem statesFit_restartStates (b : Bank) : StatesFit b (restartStates b) := by
  have hget : ∀ i : WindowId, (restartStates b)[i] = if b[i].present then .pending else .untracked := by
    intro i
    simp [restartStates]
  constructor
  · intro i
    have hfit : ∀ v : Window, copyStateSound v (if v.present then .pending else .untracked) = true := by
      intro v
      cases h : v.present <;> simp [copyStateSound, h]
    rw [hget]
    exact hfit b[i]
  · intro i j hi _
    rw [hget] at hi
    split at hi <;> simp [CopyState.isCopying] at hi

/-- The identity rule gives a record a state that goes with it (R171). -/
theorem copyStateSound_identityState {old new : Window} {st : CopyState} (h : copyStateSound old st = true) :
    copyStateSound new (identityState old new st) = true := by
  unfold identityState
  split
  · simp [copyStateSound, *]
  · split
    · rename_i hpresent hsame
      obtain ⟨hold, hbase, hcount⟩ := hsame
      have hnew : new.present = true := by simpa using hpresent
      have hfirst : new.firstWord = old.firstWord := by simp [Window.firstWord, hbase]
      have hend : new.endWord = old.endWord := by simp [Window.endWord, hbase, hcount]
      have heq : copyStateSound new st = copyStateSound old st := by
        cases st <;> simp [copyStateSound, hold, hnew, hfirst, hend]
      exact heq.trans h
    · simp_all [copyStateSound]

/-- The identity rule gives no window a cursor (R171). -/
theorem isCopying_of_identityState {old new : Window} {st : CopyState}
    (h : (identityState old new st).isCopying = true) : st.isCopying = true := by
  unfold identityState at h
  split at h
  · simp [CopyState.isCopying] at h
  · split at h
    · exact h
    · simp [CopyState.isCopying] at h

theorem identityRule_get (old new : Bank) (states : Vector CopyState 16) (i : WindowId) :
    (identityRule old new states)[i] = identityState old[i] new[i] states[i] := by
  simp [identityRule]

theorem statesFit_identityRule {old new : Bank} {states : Vector CopyState 16} (h : StatesFit old states) :
    StatesFit new (identityRule old new states) := by
  constructor
  · intro i
    rw [identityRule_get]
    exact copyStateSound_identityState (h.fits i)
  · intro i j hi hj
    rw [identityRule_get] at hi hj
    exact h.single i j (isCopying_of_identityState hi) (isCopying_of_identityState hj)

/-- A window that gets a state of its own keeps the map fitting, if no other window is COPYING then. -/
theorem statesFit_set {b : Bank} {states : Vector CopyState 16} (h : StatesFit b states) (w : WindowId)
    (x : CopyState) (hx : copyStateSound b[w] x = true)
    (hsingle : x.isCopying = true → ∀ i : WindowId, states[i].isCopying = true → i = w) :
    StatesFit b (states.set w x) := by
  have hget : ∀ i : WindowId, (states.set w x)[i] = if w = i then x else states[i] := by
    intro i
    by_cases hi : w = i
    · subst hi
      simp
    · have : (w : Nat) ≠ i := fun hn => hi (Fin.ext hn)
      simp [hi, this]
  constructor
  · intro i
    rw [hget]
    split
    · rename_i hi
      exact hi ▸ hx
    · exact h.fits i
  · intro i j hi hj
    rw [hget] at hi hj
    split at hi
    · rename_i hwi
      split at hj
      · rename_i hwj
        exact hwi.symm.trans hwj
      · exact hwi.symm.trans (hsingle hi j hj).symm
    · split at hj
      · rename_i hwj
        exact (hsingle hj i hi).trans hwj
      · exact h.single i j hi hj

/-! ## The condition with names for its parts -/

/-- The parts of `CopyMapSound`, by name, and what a part that is not SECONDARY keeps of its apply queue. -/
structure MapFacts (s : State) : Prop where
  active : bankPaged s.table.active
  staged : bankPaged s.table.staged
  queue : ∀ f ∈ s.applyq.queue, f.content.wellFormed = true
  primary : s.part.role = .primary → StatesFit s.table.active s.copy.states
  other : s.part.role ≠ .primary → (∀ i : WindowId, s.copy.states[i] = .untracked) ∧
    s.table.commitPending = false ∧ s.capture.stallTimer = none
  idle : s.part.role ≠ .secondary → s.applyq.queue = [] ∧ s.applyq.engine = .idle

theorem mapFacts_of_copyMapSound {s : State} (h : CopyMapSound s) (hrole : RoleSound s) : MapFacts s := by
  obtain ⟨hactive, hstaged, hqueue, hsingle, hprimary, hother⟩ := h
  obtain ⟨hempty, _⟩ := (roleSound_iff s).mp hrole
  exact ⟨hactive, hstaged, hqueue, fun hr => ⟨hprimary hr, hsingle⟩, hother,
    fun hr => ⟨(hempty.queue hr).queue, (hempty.queue hr).engine⟩⟩

theorem copyMapSound_of_mapFacts {t : State} (h : MapFacts t) : CopyMapSound t := by
  refine ⟨h.active, h.staged, h.queue, fun i j hi hj => ?_, fun hr => (h.primary hr).fits, h.other⟩
  by_cases hr : t.part.role = .primary
  · exact (h.primary hr).single i j hi hj
  · rw [(h.other hr).1 i] at hi
    simp [CopyState.isCopying] at hi

/-- What the condition looks at: the table, the role, the copy states, whether the stall timer runs, the apply queue. -/
theorem mapFacts_of_eq {s t : State} (htable : t.table = s.table) (hrole : t.part.role = s.part.role)
    (hstates : t.copy.states = s.copy.states)
    (hstall : s.capture.stallTimer = none → t.capture.stallTimer = none)
    (hqueue : t.applyq.queue = s.applyq.queue) (hidle : s.applyq.engine = .idle → t.applyq.engine = .idle)
    (h : MapFacts s) : MapFacts t := by
  refine ⟨htable ▸ h.active, htable ▸ h.staged, hqueue ▸ h.queue, fun hr => ?_, fun hr => ?_, fun hr => ?_⟩
  · rw [htable, hstates]
    exact h.primary (hrole ▸ hr)
  · obtain ⟨hmap, hcommit, htimer⟩ := h.other (hrole ▸ hr)
    exact ⟨hstates ▸ hmap, htable ▸ hcommit, hstall htimer⟩
  · obtain ⟨hempty, hengine⟩ := h.idle (hrole ▸ hr)
    exact ⟨hqueue ▸ hempty, hidle hengine⟩

/-- On a PRIMARY the map has to fit the active bank, the staged bank being paged. -/
theorem mapFacts_of_primary {t : State} (hrole : t.part.role = .primary) (hactive : bankPaged t.table.active)
    (hstaged : bankPaged t.table.staged) (hfit : StatesFit t.table.active t.copy.states)
    (hqueue : t.applyq.queue = [] ∧ t.applyq.engine = .idle) : MapFacts t :=
  ⟨hactive, hstaged, by simp [hqueue.1], fun _ => hfit, fun hr => absurd hrole hr, fun _ => hqueue⟩

/-! ## Shared operations -/

theorem mapFacts_restart (r : RestartReason) {s : State} (hrole : s.part.role = .primary)
    (hactive : bankPaged s.table.active) (hstaged : bankPaged s.table.staged)
    (hqueue : s.applyq.queue = [] ∧ s.applyq.engine = .idle) : MapFacts (restart r s) := by
  refine mapFacts_of_primary (by simpa using hrole) (by simpa using hactive) (by simpa using hstaged) ?_
    (by simpa using hqueue)
  simpa using statesFit_restartStates s.table.active

/-- A restart of a PRIMARY. -/
theorem mapFacts_restart_of_primary (r : RestartReason) {s : State} (hrole : s.part.role = .primary)
    (h : MapFacts s) : MapFacts (restart r s) :=
  mapFacts_restart r hrole h.active h.staged (h.idle (by simp [hrole]))

/-- A pending commit completes on a PRIMARY, with the copy states of the identity rule (R34, R171). -/
theorem mapFacts_offerCommit {s : State} (h : MapFacts s) : MapFacts (offerCommit s) := by
  obtain heq | ⟨hpending, _, heq⟩ := offerCommit_cases s
  · exact heq.symm ▸ h
  · have hrole : s.part.role = .primary := by
      by_contra hr
      simp [(h.other hr).2.1] at hpending
    rw [heq]
    refine mapFacts_of_primary (by simpa using hrole) ?_ ?_ ?_ (by simpa using h.idle (by simp [hrole]))
    · simpa using h.staged
    · simpa using h.staged
    · simpa using statesFit_identityRule (h.primary hrole)

theorem append_stallTimer (c : Content) (s : State) : (append c s).capture.stallTimer = s.capture.stallTimer := by
  simp [append, sealOpen]

theorem mapFacts_append (c : Content) {s : State} (h : MapFacts s) : MapFacts (append c s) :=
  mapFacts_of_eq (by simp) (by simp) (by simp) (by simp [append_stallTimer]) (by simp) (by simp) h

theorem mapFacts_offerSynced {s : State} (h : MapFacts s) : MapFacts (offerSynced s) := by
  simp only [offerSynced]
  split
  · exact mapFacts_of_eq (s := append (.synced s.journal.generation) s) (by simp) (by simp) (by simp) (by simp)
      (by simp) (by simp) (mapFacts_append _ h)
  · exact h

/-- A promotion completes with an empty apply queue (R182). -/
theorem mapFacts_completePromotion {s : State} (h : MapFacts s) (hcount : s.applyq.count = 0) :
    MapFacts (completePromotion s) := by
  rw [completePromotion_eq]
  exact mapFacts_of_eq (by simp) (by simp) (by simp) (by simp) (by simp) (by simp)
    (mapFacts_restart .promote (s := promoted s) rfl h.active h.staged ((applyCount_eq_zero _).mp hcount))

theorem mapFacts_endPromotion {s : State} (h : MapFacts s) : MapFacts (endPromotion s) := by
  obtain heq | ⟨_, hcount, heq⟩ := endPromotion_cases s
  · exact heq.symm ▸ h
  · exact heq ▸ mapFacts_completePromotion h hcount

theorem mapFacts_finishEntry (q : Seq) {s : State} (h : MapFacts s) : MapFacts (finishEntry q s) :=
  mapFacts_endPromotion (mapFacts_of_eq (s := s) rfl rfl rfl id rfl (fun _ => rfl) h)

/-! ## The arbiter -/

/-- Only a captured write can stall, and only a PRIMARY captures (R49, R71). -/
theorem mapFacts_captureWrite (w : HostWrite) (i : WindowId) (m : Mode) {s : State} (hrole : s.part.role = .primary)
    (h : MapFacts s) : MapFacts (captureWrite w i m s) := by
  have hidle := h.idle (by simp [hrole])
  have hkeep : ∀ t, t.part = s.part → t.table = s.table → t.copy.states = s.copy.states → t.applyq = s.applyq →
      MapFacts t := fun t h1 h2 h3 h4 => mapFacts_of_primary (h1 ▸ hrole) (h2 ▸ h.active) (h2 ▸ h.staged)
        (by rw [h2, h3]; exact h.primary hrole) (h4 ▸ hidle)
  obtain ⟨rs, rs', _, _, heq⟩ | ⟨_, heq⟩ | ⟨_, heq⟩ := captureWrite_cases w i m s
  · exact heq ▸ hkeep _ (by simp) (by simp) (by simp) (by simp)
  · exact heq ▸ hkeep _ (by simp) (by simp) (by simp) (by simp)
  · rw [heq, stallWrite_eq]
    have hbegun := hkeep (stallBegun w (sealedForCapture s)) (by simp) (by simp) (by simp) (by simp)
    split
    · exact mapFacts_of_eq (by simp) (by simp) (by simp) (by simp) (by simp) (by simp)
        (mapFacts_restart_of_primary .stall (by simpa using hrole) hbegun)
    · split <;> exact hkeep _ (by simp) (by simp) (by simp) (by simp)

theorem mapFacts_grantHost (s : State) (h : MapFacts s) : MapFacts (grantHost s) := by
  obtain ⟨_, heq⟩ | ⟨a, p, _, heq⟩ | ⟨w, p, _, heq | heq | ⟨i, hcaptured, heq⟩ | ⟨_, heq⟩⟩ := grantHost_cases s
  · exact heq.symm ▸ h
  · exact heq ▸ mapFacts_of_eq (s := s) rfl rfl rfl id rfl id h
  · exact heq ▸ mapFacts_of_eq (s := s) rfl rfl rfl id rfl id h
  · exact heq ▸ mapFacts_of_eq (s := s) (by simp) (by simp) (by simp) (by simp) (by simp) (by simp) h
  · exact heq ▸ mapFacts_captureWrite w i _ (s := hostGranted s) (role_of_captured hcaptured)
      (mapFacts_of_eq (s := s) rfl rfl rfl id rfl id h)
  · exact heq ▸ mapFacts_of_eq (s := s) (by simp) (by simp) (by simp) (by simp) (by simp) (by simp) h

theorem mapFacts_grantEngine (s : State) (h : MapFacts s) : MapFacts (grantEngine s) := by
  refine mapFacts_of_eq (by simp) (by simp) (by simp) (by simp) ?_ ?_ h
  · obtain heq | ⟨e, _, heq⟩ := grantEngine_applyq s <;> rw [heq]
  · intro hidle
    obtain heq | ⟨e, hwaiting, _⟩ := grantEngine_applyq s
    · rw [heq, hidle]
    · rw [hidle] at hwaiting
      cases hwaiting

theorem mapFacts_arbitrate (s : State) (h : MapFacts s) : MapFacts (arbitrate s) :=
  arbitrate_keeps (P := MapFacts) (fun u => grantOnce_keeps (P := MapFacts) u (mapFacts_grantHost u)
    (mapFacts_grantEngine u)) s h

/-! ## The commands -/

theorem mapFacts_softReset {s : State} (h : MapFacts s) : MapFacts (softReset s) := by
  have hbegun : MapFacts (softResetBegun s) := by
    refine ⟨by simpa using h.active, by simpa using h.staged, by simp, fun hr => ?_, fun hr => ?_, fun hr => ?_⟩
    · simpa using h.primary (by simpa using hr)
    · simpa using (h.other (by simpa using hr)).1
    · simpa using (h.idle (by simpa using hr)).2
  rw [softReset_eq]
  exact mapFacts_arbitrate _ (mapFacts_of_eq (s := offerSynced (softResetBegun s)) rfl rfl rfl id rfl id
    (mapFacts_offerSynced hbegun))

/-- A record that a bank takes by WRITE_STAGED_WINDOW has a page when it is present (R25, R28). -/
theorem pageCount_of_stagedArguments {args : List Byte} {id : WindowId} {w : Window}
    (h : stagedArguments args = some (id, w)) : 1 ≤ w.pageCount := by
  simp only [stagedArguments] at h
  split at h
  · split at h
    · rename_i hrange
      cases h
      simp only [Window.inRange, Bool.and_eq_true, decide_eq_true_eq] at hrange
      exact hrange.1.2
    · cases h
  · cases h

theorem bankPaged_set {b : Bank} {id : WindowId} {w : Window} (h : bankPaged b) (hw : 1 ≤ w.pageCount) :
    bankPaged (b.set id w.normal) := by
  intro i hi
  by_cases heq : id = i
  · subst heq
    rw [show (b.set id w.normal)[id] = w.normal by simp] at hi ⊢
    rw [normal_present] at hi
    rwa [normal_of_present w hi]
  · have hne : (id : Nat) ≠ i := fun hn => heq (Fin.ext hn)
    have hget : (b.set id w.normal)[i] = b[i] := by simp [hne]
    rw [hget] at hi ⊢
    exact h i hi

theorem mapFacts_writeStagedWindow (args : List Byte) {s : State} (h : MapFacts s) :
    MapFacts (writeStagedWindowEffect args s).state := by
  simp only [writeStagedWindowEffect]
  repeat' split
  case h_2.isFalse =>
    rename_i id w hargs _
    exact ⟨h.active, bankPaged_set h.staged (pageCount_of_stagedArguments hargs), h.queue, h.primary, h.other, h.idle⟩
  all_goals exact h

theorem mapFacts_commitTable (args : List Byte) {s : State} (h : MapFacts s) :
    MapFacts (commitTableEffect args s).state := by
  unfold commitTableEffect
  repeat' split
  case isFalse.isFalse.isFalse.isFalse =>
    rename_i hsecondary _ _ hdetached
    have hrole : s.part.role = .primary := by cases hr : s.part.role <;> simp_all
    exact mapFacts_offerCommit ⟨h.active, h.staged, h.queue, h.primary, fun hr => absurd hrole hr, h.idle⟩
  case isFalse.isFalse.isFalse.isTrue =>
    rename_i hdetached
    exact ⟨h.staged, h.staged, h.queue, fun hr => absurd (hr.symm.trans hdetached) (by simp), h.other, h.idle⟩
  all_goals exact h

/-- A part that leaves its role keeps no window tracked and no stall timer (R178). -/
theorem leaveRole_map {s : State} (h : MapFacts s) : (∀ i : WindowId, (leaveRole s).copy.states[i] = .untracked) ∧
    (leaveRole s).capture.stallTimer = none := by
  unfold leaveRole
  cases hr : s.part.role with
  | detached => exact ⟨(h.other (by simp [hr])).1, (h.other (by simp [hr])).2.2⟩
  | primary => exact ⟨fun i => by simp [leavePrimary], by simp [leavePrimary]⟩
  | secondary => exact ⟨(h.other (by simp [hr])).1, (h.other (by simp [hr])).2.2⟩

theorem mapFacts_changeRole (r : Role) {s : State} (h : MapFacts s) (hcommit : s.table.commitPending = false)
    (hqueue : s.applyq.queue = [] ∧ s.applyq.engine = .idle) : MapFacts (changeRole r s) := by
  obtain ⟨hmap, hstall⟩ := leaveRole_map h
  have hactive : bankPaged (leaveRole s).table.active := by simpa using h.active
  have hstaged : bankPaged (leaveRole s).table.staged := by simpa using h.staged
  have hcommit' : (leaveRole s).table.commitPending = false := by simpa using hcommit
  have hqueue' : (leaveRole s).applyq.queue = [] ∧ (leaveRole s).applyq.engine = .idle := by simpa using hqueue
  cases r with
  | detached =>
    exact ⟨hactive, hstaged, by simp [changeRole, hqueue.1],
      fun hr => absurd hr (by simp [changeRole, clearRejectRestarts]), fun _ => ⟨hmap, hcommit', hstall⟩,
      fun _ => hqueue'⟩
  | secondary =>
    exact ⟨hactive, hstaged, by simp [changeRole, arriveSecondary, hqueue.1],
      fun hr => absurd hr (by simp [changeRole, clearRejectRestarts]), fun _ => ⟨hmap, hcommit', hstall⟩,
      fun _ => hqueue'⟩
  | primary => exact mapFacts_restart .role rfl hactive hstaged hqueue'

theorem mapFacts_setRole (args : List Byte) {s : State} (h : MapFacts s) :
    MapFacts (setRoleEffect args s).state := by
  unfold setRoleEffect
  repeat' split
  case h_2.isFalse.isFalse.isFalse.isFalse.isFalse.isFalse =>
    rename_i r _ _ hcommit _ hdrained _ hrole
    have hempty : s.applyq.queue = [] ∧ s.applyq.engine = .idle := by
      by_cases hs : s.part.role = .secondary
      · by_contra hne
        exact hdrained ⟨hs, fun hr => hrole (hr.trans hs.symm), fun hc => hne ((applyCount_eq_zero _).mp hc)⟩
      · exact h.idle hs
    exact mapFacts_changeRole r h (by simpa using hcommit) hempty
  case h_2.isFalse.isFalse.isFalse.isFalse.isFalse.isTrue =>
    exact mapFacts_of_eq (s := s) rfl rfl rfl id rfl id h
  all_goals exact h

theorem mapFacts_promote (args : List Byte) {s : State} (h : MapFacts s) :
    MapFacts (promoteEffect args s).state := by
  unfold promoteEffect
  repeat' split
  case h_2.isFalse.isFalse.isFalse.isFalse =>
    have hset : MapFacts (s.setPart { s.part with promotionPending := true }) :=
      mapFacts_of_eq (s := s) rfl rfl rfl id rfl id h
    dsimp only
    split
    · exact mapFacts_completePromotion hset ‹_›
    · exact hset
  all_goals exact h

/-- The take of a TABLE entry gives a SECONDARY a bank whose windows have pages (R102, R153). -/
theorem mapFacts_applyTake {s : State} (h : MapFacts s) : MapFacts (applyTake s) := by
  obtain heq | ⟨e, rest, hidle, hqueue, heq⟩ := applyTake_cases s
  · exact heq.symm ▸ h
  · have hrole : s.part.role = .secondary := by
      by_contra hr
      simp [(h.idle hr).1] at hqueue
    have hnot : s.part.role ≠ .primary := by simp [hrole]
    rw [heq]
    generalize hu : s.setApplyq { s.applyq with queue := rest } = u
    have htaken : MapFacts u := hu ▸ ⟨h.active, h.staged, fun f hf => h.queue f (hqueue ▸ List.mem_cons_of_mem e hf),
      h.primary, h.other, fun hr => absurd hrole hr⟩
    have hsecondary : u.part.role = .secondary := hu ▸ hrole
    obtain heq | heq | ⟨records, complete, hcontent, _, heq⟩ | ⟨g, _, heq⟩ | ⟨g, _, heq⟩ := takeEntry_cases e u
    · exact heq ▸ mapFacts_finishEntry _ (mapFacts_of_eq (s := u) (by simp) (by simp) (by simp) (by simp)
        (by simp [rejectEntry]) (by simp [rejectEntry]) htaken)
    · exact heq ▸ mapFacts_arbitrate _ ⟨htaken.active, htaken.staged, htaken.queue, htaken.primary, htaken.other,
        fun hr => absurd hsecondary hr⟩
    · have hpaged : bankPaged (bankNormal records) := by
        intro i hi
        have hwf := h.queue e (by simp [hqueue])
        rw [hcontent] at hwf
        have hrange : records[i].inRange = true := List.all_eq_true.mp hwf i (mem_windowIds i)
        simp only [Window.inRange, Bool.and_eq_true, decide_eq_true_eq] at hrange
        rw [bankNormal_get, normal_present] at hi
        rw [bankNormal_get, normal_of_present _ hi]
        exact hrange.1.2
      exact heq ▸ mapFacts_finishEntry _ ⟨hpaged, htaken.staged, htaken.queue,
        fun hr => absurd (hr.symm.trans hsecondary) (by simp), htaken.other, fun hr => absurd hsecondary hr⟩
    · exact heq ▸ mapFacts_finishEntry _ (mapFacts_of_eq (s := u) (by simp) (by simp) (by simp) (by simp)
        (by simp [applyGeneration]) (by simp [applyGeneration]) htaken)
    · refine heq ▸ mapFacts_finishEntry _ (mapFacts_of_eq (s := u) (by simp) (by simp) (by simp) (by simp) ?_ ?_ htaken)
      all_goals
        unfold applySynced
        split <;> simp

/-- No window is COPYING (R163). -/
theorem copyingWindow_eq_none {s : State} :
    copyingWindow s = none ↔ ∀ i : WindowId, s.copy.states[i].isCopying = false := by
  unfold copyingWindow
  rw [List.findSome?_eq_none_iff]
  constructor
  · intro h i
    have hi := h i (mem_windowIds i)
    cases hs : s.copy.states[i] <;> simp_all [CopyState.isCopying]
  · intro h i _
    have hi := h i
    cases hs : s.copy.states[i] <;> simp_all [CopyState.isCopying]

theorem copyStateSound_copying (w : Window) (c : Nat) : copyStateSound w (.copying c) = true ↔
    w.present = true ∧ w.firstWord ≤ c ∧ c < w.endWord ∧ (c - w.firstWord) % Config.burstWords = 0 := by
  simp only [copyStateSound, Bool.and_eq_true, decide_eq_true_eq]

/-- A cursor at the first word of a window lies inside it. -/
theorem copyStateSound_firstWord {w : Window} (hpresent : w.present = true) (hpaged : 1 ≤ w.pageCount) :
    copyStateSound w (.copying w.firstWord) = true := by
  rw [copyStateSound_copying]
  simp only [Window.firstWord, Window.endWord, Config.pageWords, Config.burstWords]
  exact ⟨hpresent, by omega, by omega, by omega⟩

/-- A cursor inside a window that has not come to its end by a burst is inside it after the burst. -/
theorem copyStateSound_advance {w : Window} {c : Nat} (h : copyStateSound w (.copying c) = true)
    (hend : c + Config.burstWords ≠ w.endWord) : copyStateSound w (.copying (c + Config.burstWords)) = true := by
  rw [copyStateSound_copying] at h ⊢
  simp only [Window.firstWord, Window.endWord, Config.pageWords, Config.burstWords] at h hend ⊢
  obtain ⟨hpresent, hfirst, hlast, haligned⟩ := h
  exact ⟨hpresent, by omega, by omega, by omega⟩

/-- The window picked has its cursor at its first word, and no other window was COPYING (R166). -/
theorem mapFacts_copyPick {s : State} (h : MapFacts s) : MapFacts (copyPick s) := by
  unfold copyPick
  split
  · rename_i hrun
    obtain ⟨_, hmay, hnone⟩ := hrun
    have hrole := role_of_copyMayRun hmay
    split
    · rename_i i hpick
      refine ⟨h.active, h.staged, h.queue, fun _ => ?_, fun hr => absurd hrole hr, h.idle⟩
      refine statesFit_set (h.primary hrole) i _ ?_ ?_
      · have hpending : s.copy.states[i] = .pending := by simpa using List.find?_some hpick
        have hfits := (h.primary hrole).fits i
        rw [hpending] at hfits
        exact copyStateSound_firstWord hfits (h.active i hfits)
      · intro _ j hj
        rw [copyingWindow_eq_none.mp hnone j] at hj
        cases hj
    · exact h
  · exact h

/-- The cursor advances inside the window, or the window becomes CLEAN at its end (R167). -/
theorem mapFacts_finishBurst (w : WindowId) (c : Nat) (r : Run) {s : State} (hcursor : s.copy.states[w] = .copying c)
    (h : MapFacts s) : MapFacts (finishBurst w c r s) := by
  have hrole : s.part.role = .primary := by
    by_contra hr
    rw [(h.other hr).1 w] at hcursor
    cases hcursor
  have hfit := h.primary hrole
  have hsound := hfit.fits w
  rw [hcursor] at hsound
  have hset : ∀ x, copyStateSound s.table.active[w] x = true →
      MapFacts ((append (.copy r) s).setCopy { (append (.copy r) s).copy with states := s.copy.states.set w x }) := by
    intro x hx
    refine mapFacts_of_primary (by simpa using hrole) (by simpa using h.active) (by simpa using h.staged) ?_
      (by simpa using h.idle (by simp [hrole]))
    simp only [State.setCopy_table, append_frame, State.setCopy_copy]
    exact statesFit_set hfit w x hx fun _ i hi => hfit.single i w hi (by rw [hcursor]; rfl)
  simp only [finishBurst]
  split
  · refine mapFacts_offerSynced ?_
    simpa using hset .clean (by simp only [copyStateSound, Bool.and_eq_true] at hsound ⊢; exact hsound.1)
  · rename_i hend
    simpa using hset (.copying (c + Config.burstWords)) (copyStateSound_advance hsound (by simpa using hend))

/-- A release ends a stall and starts none (R73). -/
theorem release_stallTimer (n : Seq) (s : State) (h : s.capture.stallTimer = none) :
    (release n s).capture.stallTimer = none := by
  have hend : ∀ u : State, u.capture.stallTimer = none → (endStall u).capture.stallTimer = none := by
    intro u hu
    unfold endStall
    split
    · rfl
    · exact hu
  simp only [release]
  split
  · exact h
  · refine hend _ ?_
    (repeat' split) <;> simpa using h

theorem acceptHello_stallTimer (f : HelloFrame) (s : State) (h : s.capture.stallTimer = none) :
    (acceptHello f s).capture.stallTimer = none := by
  have henter : ∀ u : State, u.capture = s.capture → (enterUp f u).capture.stallTimer = none := by
    intro u hu
    cases hr : u.part.role with
    | primary =>
      rw [enterUp_of_primary f u hr]
      exact release_stallTimer f.next (upSession u) (by rw [← h, ← hu]; rfl)
    | secondary => exact enterUp_of_secondary f u hr ▸ (by rw [← h, ← hu]; rfl)
    | detached => exact enterUp_of_detached f u hr ▸ (by rw [← h, ← hu]; rfl)
  unfold acceptHello
  dsimp only
  split
  · exact henter _ (by split <;> rfl)
  · split <;> exact h

/-- A HELLO changes the queue by adoption at a SECONDARY and the copy states by a restart at a PRIMARY. -/
theorem mapFacts_judgeHello (f : HelloFrame) {s : State} (h : MapFacts s) : MapFacts (judgeHello f s) := by
  have haccept : ∀ u, MapFacts u → MapFacts (acceptHello f u) := fun u hu =>
    mapFacts_of_eq (by simp) (by simp) (by simp) (acceptHello_stallTimer f u) (by simp) (by simp) hu
  unfold judgeHello
  split
  · exact haccept s h
  · split
    · rename_i hrole
      split
      · exact h
      · exact mapFacts_restart_of_primary .join hrole h
    · rename_i hrole
      split
      · refine haccept (adopt f s) ⟨h.active, h.staged, by simp [adopt, rearmNak], h.primary, h.other, fun hr => ?_⟩
        exact absurd hrole hr
      · exact h
    · exact h

theorem mapFacts_receiveHello (f : HelloFrame) {s : State} (h : MapFacts s) : MapFacts (receiveHello f s) := by
  have hsame : ∀ t, t.table = s.table → t.part = s.part → t.copy.states = s.copy.states → t.capture = s.capture →
      t.applyq = s.applyq → MapFacts t := fun t h1 h2 h3 h4 h5 =>
    mapFacts_of_eq h1 (by rw [h2]) h3 (by rw [h4]; exact id) (by rw [h5]) (by rw [h5]; exact id) h
  unfold receiveHello
  split
  · exact hsame _ (by simp) (by simp) (by simp) (by simp) (by simp)
  · split
    · exact hsame _ (by simp) (by simp) (by simp) (by simp) (by simp)
    · split
      · split
        · exact hsame _ (by simp) (by simp) (by simp) (by simp) (by simp)
        · exact mapFacts_judgeHello f (hsame _ (by simp) (by simp) (by simp) (by simp) (by simp))
      · exact mapFacts_judgeHello f h

theorem mapFacts_receiveLink (f : LinkFrame) {s : State} (h : MapFacts s) : MapFacts (receiveLink f s) := by
  unfold receiveLink
  split
  · rename_i hup
    split
    · unfold peerReject
      split
      · exact mapFacts_restart_of_primary .peerReject
          (s := s.setSession { s.session with rejectRestarts := s.session.rejectRestarts + 1 }) hup.1
          (mapFacts_of_eq (s := s) rfl rfl rfl id rfl id h)
      · exact mapFacts_of_eq (by simp) (by simp) (by simp) (by simp) (by simp) (by simp) h
    · split
      · have hreleased : MapFacts (release f.ack (s.setSender { s.sender with peerLimit := f.limit })) :=
          mapFacts_of_eq (s := s) (by simp) (by simp) (by simp) (fun hn => release_stallTimer f.ack _ hn) (by simp)
            (by simp) h
        simp only [takeLink]
        split
        · exact mapFacts_of_eq (by simp) (by simp) (by simp) (by simp) (by simp) (by simp) hreleased
        · exact hreleased
      · exact mapFacts_of_eq (by simp) (by simp) (by simp) (by simp) (by simp) (by simp) h
  · exact h

theorem mapFacts_receiveData (f : DataFrame) {s : State} (hwf : f.content.wellFormed = true) (h : MapFacts s) :
    MapFacts (receiveData f s) := by
  unfold receiveData
  split
  · rename_i hup
    split
    · split
      · refine ⟨h.active, h.staged, fun g hg => ?_, h.primary, h.other, fun hr => absurd hup.1 hr⟩
        have hmem : g ∈ s.applyq.queue ++ [f] := hg
        obtain hold | hnew := List.mem_append.mp hmem
        · exact h.queue g hold
        · exact (List.mem_singleton.mp hnew) ▸ hwf
      · exact mapFacts_of_eq (by simp) (by simp) (by simp) (by simp) (by simp) (by simp) h
    · split
      · exact mapFacts_of_eq (by simp) (by simp) (by simp) (by simp) (by simp) (by simp) h
      · exact mapFacts_of_eq (by simp) (by simp) (by simp) (by simp) (by simp) (by simp) h
  · exact h

theorem mapFacts_kept : KeptByCommands MapFacts := by
  constructor
  case powerReset =>
    have hpaged : bankPaged State.reset.table.active := by
      intro i hi
      have hget : State.reset.table.active[i] = Window.absent := by simp [State.reset]
      rw [hget] at hi
      cases hi
    exact fun n s _ => ⟨hpaged, hpaged, by simp [powerReset, State.reset],
      fun hr => absurd hr (by simp [powerReset, State.reset]), fun _ => ⟨fun i => by simp [powerReset, State.reset], rfl, rfl⟩, fun _ => ⟨rfl, rfl⟩⟩
  case softReset => exact fun s h => mapFacts_softReset h
  case writeStagedWindow => exact fun args s h => mapFacts_writeStagedWindow args h
  case copyActiveToStaged =>
    intro args s h
    unfold copyActiveToStagedEffect
    split
    · exact h
    · exact ⟨h.active, h.active, h.queue, h.primary, h.other, h.idle⟩
  case commitTable => exact fun args s h => mapFacts_commitTable args h
  case setRole => exact fun args s h => mapFacts_setRole args h
  case promote => exact fun args s h => mapFacts_promote args h
  case linkDisable =>
    intro args s h
    refine mapFacts_of_eq (by simp) (by simp) ?_ (by simp) (by simp) (by simp) h
    unfold linkDisableEffect
    cases s.session.state <;> simp [answer]
  case startResync =>
    intro args s h
    unfold startResyncEffect
    split
    · exact mapFacts_restart_of_primary .command ‹_› h
    · exact h
  case presentTransaction =>
    intro txn s h
    unfold presentTransaction
    split
    · exact mapFacts_arbitrate _ (mapFacts_of_eq (s := s) rfl rfl rfl id rfl id h)
    · exact h
  case endHostRead =>
    intro s h
    unfold endHostRead
    split
    · exact mapFacts_arbitrate _ (mapFacts_of_eq (s := s) rfl rfl rfl id rfl id h)
    · exact h
  case endHostWrite =>
    intro s h
    unfold endHostWrite
    split
    · refine mapFacts_arbitrate _ ?_
      split <;> exact mapFacts_of_eq (s := s) rfl rfl rfl id rfl id h
    · exact h
  case represent =>
    exact fun s h => mapFacts_arbitrate _
      (mapFacts_of_eq (by simp) (by simp) (by simp) (by simp) (by simp) (by simp) h)
  case endApply =>
    intro s h
    unfold endApply
    split
    · exact mapFacts_arbitrate _ (mapFacts_finishEntry _ (mapFacts_of_eq (s := s) rfl rfl rfl id rfl id h))
    · exact h
  case endBurst =>
    intro w c v s t h _ _ hend
    have hfreed : MapFacts (burstFreed c s) := mapFacts_of_eq (s := s) rfl rfl rfl id rfl id h
    obtain rfl | ⟨hcursor, _, rfl⟩ := endBurst_cases w c v s t hend
    · exact mapFacts_arbitrate _ hfreed
    · exact mapFacts_arbitrate _ (mapFacts_finishBurst w c _ hcursor hfreed)
  case applyTake => exact fun s h => mapFacts_applyTake h
  case copyPick => exact fun s h => mapFacts_copyPick h
  case copyRequest =>
    intro s h
    unfold copyRequest
    split
    · split
      · exact mapFacts_arbitrate _ (mapFacts_of_eq (s := s) rfl rfl rfl id rfl id h)
      · exact h
    · exact h
  case offerCommit => exact fun s h => mapFacts_offerCommit h
  case offerSynced => exact fun s h => mapFacts_offerSynced h
  case endPromotion => exact fun s h => mapFacts_endPromotion h
  case sealAge =>
    intro s h
    unfold sealAge
    split
    · exact mapFacts_of_eq (s := s) rfl rfl rfl id rfl id h
    · exact h
  case stallExpiry =>
    intro s h
    unfold stallExpiry
    split
    · rename_i hruns
      refine mapFacts_restart_of_primary .stall ?_ h
      by_contra hr
      simp [(h.other hr).2.2] at hruns
    · exact h
  case ackExpiry =>
    intro s h
    refine mapFacts_of_eq (by simp) (by simp) ?_ (by simp) (by simp) (by simp) h
    simp only [ackExpiry]
    (repeat' split) <;> simp
  case silenceExpiry =>
    intro s h
    refine mapFacts_of_eq (by simp) (by simp) ?_ (by simp) (by simp) (by simp) h
    unfold silenceExpiry
    split <;> simp
  case receiveHello => exact fun f s _ _ h => mapFacts_receiveHello f h
  case receiveBye =>
    intro s _ h
    refine mapFacts_of_eq (by simp) (by simp) ?_ (by simp) (by simp) (by simp) h
    unfold receiveBye
    split <;> simp
  case receiveLink => exact fun f s h => mapFacts_receiveLink f h
  case receiveData => exact fun f s hwf h => mapFacts_receiveData f hwf h
  all_goals
    intros
    refine mapFacts_of_eq ?_ ?_ ?_ ?_ ?_ ?_ ‹MapFacts _›
    all_goals simp

/-- Settles O59: the map is set anew by a restart, carried over by the identity rule at a commit, and advanced by the
Copy Engine inside the window; nothing else touches it. -/
theorem copyMapStaysSound : Obligations.CopyMapStaysSound :=
  fun _ _ ⟨hmap, hrole⟩ hstep =>
    copyMapSound_of_mapFacts (step_keeps mapFacts_kept (mapFacts_of_copyMapSound hmap hrole) hstep)

end Sys2Proof.Proofs
end

section
/-! The memory port with its holder, and the arbiter that leaves nothing waiting (R44 to R47). -/

namespace Sys2Proof.Proofs

open Sys2Proof.Machine

/-! ## What leaves the port to its holder -/

/-- A Copy Engine whose request may have been withdrawn (R165). -/
def Withdrawn (a b : CopyEngine) : Prop := b = a ∨ ((∃ w c, a = .waiting w c) ∧ b = .idle)

/-- A host port whose hold or stall may have ended (R73, R82). -/
def HostEased (a b : HostState) : Prop :=
  b = a ∨ (∃ w, a = .held w ∧ b = .idle) ∨ ∃ w, a = .stalled w ∧ b = .request (.write w) false false

theorem Withdrawn.trans {a b c : CopyEngine} (h : Withdrawn a b) (h' : Withdrawn b c) : Withdrawn a c := by
  obtain rfl | ⟨hw, rfl⟩ := h
  · exact h'
  · obtain rfl | ⟨⟨w, x, hx⟩, _⟩ := h'
    · exact .inr ⟨hw, rfl⟩
    · cases hx

theorem HostEased.trans {a b c : HostState} (h : HostEased a b) (h' : HostEased b c) : HostEased a c := by
  obtain rfl | ⟨w, rfl, rfl⟩ | ⟨w, rfl, rfl⟩ := h
  · exact h'
  · obtain rfl | ⟨v, hv, _⟩ | ⟨v, hv, _⟩ := h'
    · exact .inr (.inl ⟨w, rfl, rfl⟩)
    · cases hv
    · cases hv
  · obtain rfl | ⟨v, hv, _⟩ | ⟨v, hv, _⟩ := h'
    · exact .inr (.inr ⟨w, rfl, rfl⟩)
    · cases hv
    · cases hv

/-- What passes without the memory port: no operation begins or ends, and no request is made. -/
structure PortQuiet (s t : State) : Prop where
  port : t.port.holder = s.port.holder
  apply : t.applyq.engine = s.applyq.engine
  copy : Withdrawn s.copy.engine t.copy.engine
  host : HostEased s.host.state t.host.state

theorem PortQuiet.trans {s t u : State} (h : PortQuiet s t) (h' : PortQuiet t u) : PortQuiet s u :=
  ⟨h'.port.trans h.port, h'.apply.trans h.apply, h.copy.trans h'.copy, h.host.trans h'.host⟩

theorem portQuiet_of_eq {s t : State} (hport : t.port = s.port) (happlyq : t.applyq = s.applyq)
    (hcopy : t.copy.engine = s.copy.engine) (hhost : t.host = s.host) : PortQuiet s t :=
  ⟨by rw [hport], by rw [happlyq], .inl hcopy, .inl (by rw [hhost])⟩

/-- The start may differ in blocks that the port does not look at. -/
theorem PortQuiet.start {s t u : State} (h : PortQuiet u t) (hport : u.port = s.port)
    (happlyq : u.applyq.engine = s.applyq.engine) (hcopy : u.copy.engine = s.copy.engine) (hhost : u.host = s.host) :
    PortQuiet s t :=
  ⟨hport ▸ h.port, happlyq ▸ h.apply, hcopy ▸ h.copy, hhost ▸ h.host⟩

theorem portQuiet_refl (s : State) : PortQuiet s s := portQuiet_of_eq rfl rfl rfl rfl

/-- A BUSY port belongs to the operation in progress, and no other operation is (R44). -/
structure PortHeld (s : State) : Prop where
  read : s.port.holder = .hostRead ↔ hostReading s = true
  write : s.port.holder = .hostWrite ↔ hostWriting s = true
  apply : s.port.holder = .apply ↔ applyWriting s = true
  burst : s.port.holder = .burst ↔ copyReading s = true

/-- Nothing waits at an IDLE port (R46). -/
def Settled (s : State) : Prop := s.port.holder = .idle → hostRequests s = false ∧ engineRequests s = false

theorem portSound_iff (s : State) : PortSound s ↔ PortHeld s ∧ Settled s :=
  ⟨fun ⟨h1, h2, h3, h4, h5⟩ => ⟨⟨h1, h2, h3, h4⟩, h5⟩, fun ⟨⟨h1, h2, h3, h4⟩, h5⟩ => ⟨h1, h2, h3, h4, h5⟩⟩

/-- The operations in progress are the same, and so is the holder. -/
theorem portHeld_of_eq {s t : State} (hport : t.port.holder = s.port.holder) (hread : hostReading t = hostReading s)
    (hwrite : hostWriting t = hostWriting s) (happly : applyWriting t = applyWriting s)
    (hburst : copyReading t = copyReading s) (h : PortHeld s) : PortHeld t := by
  obtain ⟨h1, h2, h3, h4⟩ := h
  constructor <;> simp only [hport, hread, hwrite, happly, hburst] <;> assumption

theorem applyWriting_of_engine {s t : State} (h : t.applyq.engine = s.applyq.engine) :
    applyWriting t = applyWriting s := by
  unfold applyWriting
  rw [h]

theorem copyReading_of_withdrawn {s t : State} (h : Withdrawn s.copy.engine t.copy.engine) :
    copyReading t = copyReading s := by
  unfold copyReading
  obtain heq | ⟨⟨w, c, hw⟩, heq⟩ := h
  · rw [heq]
  · rw [heq, hw]

theorem hostReading_of_eased {s t : State} (h : HostEased s.host.state t.host.state) :
    hostReading t = hostReading s ∧ hostWriting t = hostWriting s := by
  unfold hostReading hostWriting
  obtain heq | ⟨w, hw, heq⟩ | ⟨w, hw, heq⟩ := h
  · rw [heq]
    exact ⟨rfl, rfl⟩
  · rw [heq, hw]
    exact ⟨rfl, rfl⟩
  · rw [heq, hw]
    exact ⟨rfl, rfl⟩

theorem PortQuiet.portHeld {s t : State} (hq : PortQuiet s t) (h : PortHeld s) : PortHeld t :=
  portHeld_of_eq hq.port (hostReading_of_eased hq.host).1 (hostReading_of_eased hq.host).2
    (applyWriting_of_engine hq.apply) (copyReading_of_withdrawn hq.copy) h

theorem PortQuiet.settled {s t : State} (hq : PortQuiet s t) (h : Settled s) : Settled t := by
  intro hidle
  obtain ⟨hhost, hengine⟩ := h (hq.port ▸ hidle)
  constructor
  · unfold hostRequests at hhost ⊢
    obtain heq | ⟨w, _, heq⟩ | ⟨w, _, heq⟩ := hq.host
    · rw [heq]
      exact hhost
    · rw [heq]
    · rw [heq]
  · unfold engineRequests at hengine ⊢
    rw [hq.apply]
    obtain heq | ⟨_, heq⟩ := hq.copy
    · rw [heq]
      exact hengine
    · rw [heq, Bool.or_false]
      exact (Bool.or_eq_false_iff.mp hengine).1

theorem PortQuiet.portSound {s t : State} (hq : PortQuiet s t) (h : PortSound s) : PortSound t := by
  rw [portSound_iff] at h ⊢
  exact ⟨hq.portHeld h.1, hq.settled h.2⟩

/-! ## How the shared operations leave the host port -/

theorem endHold_eased (o : HoldOutcome) (s : State) : HostEased s.host.state (endHold o s).host.state := by
  unfold endHold completeHeld
  split
  · rename_i w hw
    exact .inr (.inl ⟨w, hw, rfl⟩)
  · exact .inl rfl

theorem endStall_eased (s : State) : HostEased s.host.state (endStall s).host.state := by
  unfold endStall
  split
  · rename_i w hw
    exact .inr (.inr ⟨w, hw, rfl⟩)
  · exact .inl rfl

theorem discardJournal_eased (s : State) : HostEased s.host.state (discardJournal s).host.state := by
  simp only [discardJournal]
  split
  · exact endHold_eased .abandoned ((s.setJournal { s.journal with
      entries := [], sendPoint := s.journal.nextSeq, heldRewind := none }).setCapture
        { s.capture with sealTimer := none })
  · exact .inl rfl

theorem restart_eased (r : RestartReason) (s : State) : HostEased s.host.state (restart r s).host.state := by
  rw [restart_eq]
  refine (discardJournal_eased s).trans ?_
  simpa using endStall_eased
    (offerSynced (count .streamRestarts (raise .streamRestart (restartSession (restartBegun r s)))))

theorem release_eased (n : Seq) (s : State) : HostEased s.host.state (release n s).host.state := by
  have hheld : HostEased s.host.state
      (if ((s.journal.gone n).any fun e => e.held) = true then
        endHold .released (s.setJournal (s.journal.afterRelease n))
      else s.setJournal (s.journal.afterRelease n)).host.state := by
    split
    · exact endHold_eased .released (s.setJournal (s.journal.afterRelease n))
    · exact .inl rfl
  simp only [release]
  split
  · exact .inl rfl
  · refine HostEased.trans ?_ (endStall_eased _)
    refine hheld.trans (.inl ?_)
    split <;> simp

/-! ## How the shared operations leave the Copy Engine -/

theorem withdrawCopy_withdrawn (s : State) : Withdrawn s.copy.engine (withdrawCopy s).copy.engine := by
  unfold withdrawCopy
  split
  · split
    · exact .inl rfl
    · rename_i w c hw _
      exact .inr ⟨⟨w, c, hw⟩, rfl⟩
  · exact .inl rfl

theorem append_withdrawn (c : Content) (s : State) : Withdrawn s.copy.engine (append c s).copy.engine :=
  withdrawCopy_withdrawn (pushEntry c .ready (sealOpen s))

theorem openEntry_withdrawn (r : Run) (s : State) : Withdrawn s.copy.engine (openEntry r s).copy.engine :=
  withdrawCopy_withdrawn ((pushEntry (.write [r]) .opened s).setCapture
    { s.capture with sealTimer := some s.params.sealAge })

theorem leaveUp_withdrawn (r : LossReason) (s : State) : Withdrawn s.copy.engine (leaveUp r s).copy.engine := by
  simp only [leaveUp]
  split
  · rename_i w c hw
    exact .inr ⟨⟨w, c, by simpa using hw⟩, rfl⟩
  · exact .inl (by simp)

theorem enterFault_withdrawn (c : FaultCause) (s : State) : Withdrawn s.copy.engine (enterFault c s).copy.engine := by
  by_cases hup : s.session.state = .up
  · simpa [enterFault_of_up c s hup] using leaveUp_withdrawn .fault s
  · exact .inl (by simp [enterFault_of_not_up c s hup])

theorem loseSession_withdrawn (r : LossReason) (s : State) :
    Withdrawn s.copy.engine (loseSession r s).copy.engine := by
  simpa [loseSession] using leaveUp_withdrawn r s

theorem restartSession_withdrawn (s : State) : Withdrawn s.copy.engine (restartSession s).copy.engine := by
  unfold restartSession
  split
  · exact loseSession_withdrawn .resync s
  · exact .inl (by simp)
  · exact .inl rfl

theorem offerSynced_withdrawn (s : State) : Withdrawn s.copy.engine (offerSynced s).copy.engine := by
  simp only [offerSynced]
  split
  · simpa using append_withdrawn (.synced s.journal.generation) s
  · exact .inl rfl

theorem restartBegun_withdrawn (r : RestartReason) (s : State) :
    Withdrawn s.copy.engine (restartBegun r s).copy.engine := by
  have hgeneration := append_withdrawn (.generation (restartGeneration r s)) ((discardJournal s).setJournal
    { (discardJournal s).journal with generation := restartGeneration r s, lastRestart := r })
  simp only [State.setJournal_copy, discardJournal_frame] at hgeneration
  exact hgeneration.trans (append_withdrawn _ _)

theorem restart_withdrawn (r : RestartReason) (s : State) : Withdrawn s.copy.engine (restart r s).copy.engine := by
  have hsession := restartSession_withdrawn (restartBegun r s)
  have hsynced := offerSynced_withdrawn (count .streamRestarts (raise .streamRestart
    (restartSession (restartBegun r s))))
  simp only [count_frame, raise_frame] at hsynced
  rw [restart_eq]
  simpa using (restartBegun_withdrawn r s).trans (hsession.trans hsynced)

theorem completeCommit_withdrawn (s : State) : Withdrawn s.copy.engine (completeCommit s).copy.engine := by
  refine (append_withdrawn (.table s.table.staged (allClean s.table.staged
    (identityRule s.table.active s.table.staged s.copy.states))) s).trans ?_
  simp only [completeCommit]
  refine Withdrawn.trans (.inl ?_) (offerSynced_withdrawn _)
  simp

/-! ## The shared operations -/

theorem portQuiet_restart (r : RestartReason) (s : State) : PortQuiet s (restart r s) :=
  ⟨by simp, by simp, restart_withdrawn r s, restart_eased r s⟩

theorem portQuiet_offerSynced (s : State) : PortQuiet s (offerSynced s) :=
  ⟨by simp, by simp, offerSynced_withdrawn s, .inl (by simp)⟩

theorem portQuiet_loseSession (r : LossReason) (s : State) : PortQuiet s (loseSession r s) :=
  ⟨by simp, by simp, loseSession_withdrawn r s, .inl (by simp)⟩

theorem portQuiet_enterFault (c : FaultCause) (s : State) : PortQuiet s (enterFault c s) :=
  ⟨by simp, by simp, enterFault_withdrawn c s, .inl (by simp)⟩

theorem portQuiet_release (n : Seq) (s : State) : PortQuiet s (release n s) :=
  ⟨by simp, by simp, .inl (by simp), release_eased n s⟩

theorem portQuiet_offerCommit (s : State) : PortQuiet s (offerCommit s) := by
  obtain heq | ⟨_, _, heq⟩ := offerCommit_cases s
  · exact heq.symm ▸ portQuiet_refl s
  · exact heq.symm ▸ ⟨by simp, by simp, completeCommit_withdrawn s, .inl (by simp)⟩

theorem portQuiet_completePromotion (s : State) : PortQuiet s (completePromotion s) :=
  ⟨by simp, by simp, restart_withdrawn .promote (promoted s), restart_eased .promote (promoted s)⟩

theorem portQuiet_endPromotion (s : State) : PortQuiet s (endPromotion s) := by
  obtain heq | ⟨_, _, heq⟩ := endPromotion_cases s
  · exact heq.symm ▸ portQuiet_refl s
  · exact heq.symm ▸ portQuiet_completePromotion s

/-! ## A grant keeps the port with its holder -/

section
variable {s t : State}

/-- At an IDLE port no operation is in progress. -/
theorem PortHeld.idle_facts (h : PortHeld s) (hidle : s.port.holder = .idle) :
    hostReading s = false ∧ hostWriting s = false ∧ applyWriting s = false ∧ copyReading s = false := by
  obtain ⟨h1, h2, h3, h4⟩ := h
  simp_all

theorem portHeld_of_hostWrite {w : HostWrite} (hport : t.port.holder = .hostWrite)
    (hhost : t.host.state = .access (.write w)) (happly : applyWriting t = false) (hburst : copyReading t = false) :
    PortHeld t := by
  constructor <;> simp [hport, hostReading, hostWriting, hhost, happly, hburst]

/-- At a port that stays IDLE no operation has begun. -/
theorem portHeld_of_idle (hport : t.port.holder = .idle) (hread : hostReading t = false)
    (hwrite : hostWriting t = false) (happly : applyWriting t = false) (hburst : copyReading t = false) :
    PortHeld t := by
  constructor <;> simp [hport, hread, hwrite, happly, hburst]

theorem copyReading_of_copy (h : t.copy = s.copy) : copyReading t = copyReading s := by
  unfold copyReading
  rw [h]

end

/-- A captured write is at the memory port (R52, R69). -/
@[simp] theorem afterCapture_port (w : HostWrite) (m : Mode) (s : State) :
    (afterCapture w m s).host = { s.host with state := .access (.write w) } ∧
    (afterCapture w m s).port = { s.port with holder := .hostWrite } := by
  unfold afterCapture
  cases m with
  | async => exact ⟨rfl, rfl⟩
  | sync =>
    dsimp only
    split <;> simp [performWrite]

theorem represent_host (s : State) : hostReading (represent s) = hostReading s ∧
    hostWriting (represent s) = hostWriting s ∧ isStalled (represent s) = isStalled s := by
  unfold represent
  split
  · rename_i t p hs
    simp [hostReading, hostWriting, isStalled, hs]
  · simp

/-- A stall leaves an IDLE port IDLE (R71). -/
theorem portHeld_stallWrite (w : HostWrite) {s : State} (h : PortHeld s) (hidle : s.port.holder = .idle) :
    PortHeld (stallWrite w s) := by
  obtain ⟨_, _, happly, hburst⟩ := h.idle_facts hidle
  have hbegun : PortHeld (stallBegun w s) := portHeld_of_idle (by simpa using hidle)
    (by simp [hostReading]) (by simp [hostWriting]) (by rw [← happly]; exact applyWriting_of_engine (by simp))
    (by rw [← hburst]; exact copyReading_of_copy (by simp))
  rw [stallWrite_eq]
  split
  · have hrestarted := (portQuiet_restart .stall (stallBegun w s)).portHeld hbegun
    exact portHeld_of_eq (by simp) (represent_host _).1 (represent_host _).2.1 (applyWriting_of_engine (by simp))
      (copyReading_of_copy (by simp)) hrestarted
  · split <;> exact ⟨hbegun.read, hbegun.write, hbegun.apply, hbegun.burst⟩

theorem portHeld_captureWrite (w : HostWrite) (i : WindowId) (m : Mode) {s : State} (h : PortHeld s)
    (hidle : s.port.holder = .idle) : PortHeld (captureWrite w i m s) := by
  obtain ⟨_, _, happly, hburst⟩ := h.idle_facts hidle
  have hsealed : PortQuiet s (sealedForCapture s) := portQuiet_of_eq (by simp) (by simp) (by simp) (by simp)
  obtain ⟨rs, rs', _, _, heq⟩ | ⟨_, heq⟩ | ⟨_, heq⟩ := captureWrite_cases w i m s
  · rw [heq]
    exact portHeld_of_hostWrite (w := w) (by simp) (by simp) (by rw [← happly]; exact applyWriting_of_engine (by simp))
      (by rw [← hburst]; exact copyReading_of_copy (by simp))
  · rw [heq]
    refine portHeld_of_hostWrite (w := w) (by simp) (by simp)
      (by rw [← happly]; exact applyWriting_of_engine (by simp)) ?_
    rw [← hburst]
    refine copyReading_of_withdrawn ?_
    simpa using openEntry_withdrawn (w.toRun i) (sealedForCapture s)
  · rw [heq]
    exact portHeld_stallWrite w (hsealed.portHeld h) (hsealed.port.trans hidle)

theorem portHeld_grantHost {s : State} (h : PortHeld s) (hidle : s.port.holder = .idle) :
    PortHeld (grantHost s) := by
  obtain ⟨_, _, happly, hburst⟩ := h.idle_facts hidle
  have happly' : ∀ t, t.applyq = s.applyq → applyWriting t = false := fun t ht => by
    rw [← happly]
    exact applyWriting_of_engine (by rw [ht])
  have hburst' : ∀ t, t.copy = s.copy → copyReading t = false := fun t ht => by
    rw [← hburst]
    exact copyReading_of_copy ht
  obtain ⟨_, heq⟩ | ⟨a, p, _, heq⟩ | ⟨w, p, _, heq | heq | ⟨i, _, heq⟩ | ⟨_, heq⟩⟩ := grantHost_cases s
  · exact heq.symm ▸ h
  · rw [heq]
    have ha := happly' _ (rfl : ((s.setHost { s.host with state := .access (.read a) }).setPort
      { holder := .hostRead, lastGrant := .host }).applyq = s.applyq)
    have hb := hburst' _ (rfl : ((s.setHost { s.host with state := .access (.read a) }).setPort
      { holder := .hostRead, lastGrant := .host }).copy = s.copy)
    constructor <;> simp [ha, hb, hostReading, hostWriting]
  · rw [heq]
    exact portHeld_of_hostWrite (w := w) rfl rfl (happly' _ rfl) (hburst' _ rfl)
  · rw [heq]
    exact portHeld_of_hostWrite (w := w) rfl rfl (happly' _ (by simp)) (hburst' _ (by simp))
  · rw [heq]
    exact portHeld_captureWrite w i _ (s := hostGranted s) ⟨h.read, h.write, h.apply, h.burst⟩ hidle
  · rw [heq]
    exact portHeld_of_idle (by simpa using hidle) (by simp [hostReading, finishHost])
      (by simp [hostWriting, finishHost]) (happly' _ (by simp)) (hburst' _ (by simp))

/-- An engine's request that stands is granted (R46). -/
theorem grantEngine_cases (s : State) :
    (∃ e, s.applyq.engine = .waiting e ∧ grantEngine s =
      (s.setApplyq { s.applyq with engine := .writing e }).setPort { holder := .apply, lastGrant := .engine }) ∨
    ((∀ e, s.applyq.engine ≠ .waiting e) ∧ ∃ w c, s.copy.engine = .waiting w c ∧ grantEngine s =
      (s.setCopy { s.copy with engine := .reading w c false }).setPort { holder := .burst, lastGrant := .engine }) ∨
    (engineRequests s = false ∧ grantEngine s = s) := by
  unfold grantEngine engineRequests
  cases ha : s.applyq.engine <;> cases hc : s.copy.engine <;> simp

theorem portHeld_grantEngine {s : State} (h : PortHeld s) (hidle : s.port.holder = .idle) :
    PortHeld (grantEngine s) := by
  obtain ⟨hread, hwrite, happly, hburst⟩ := h.idle_facts hidle
  obtain ⟨e, _, heq⟩ | ⟨_, w, c, _, heq⟩ | ⟨_, heq⟩ := grantEngine_cases s
  · rw [heq]
    refine ⟨?_, ?_, ?_, ?_⟩
    · exact iff_of_false (by simp) (by rw [Bool.not_eq_true]; exact hread)
    · exact iff_of_false (by simp) (by rw [Bool.not_eq_true]; exact hwrite)
    · exact iff_of_true rfl rfl
    · exact iff_of_false (by simp) (by rw [Bool.not_eq_true]; exact hburst)
  · rw [heq]
    refine ⟨?_, ?_, ?_, ?_⟩
    · exact iff_of_false (by simp) (by rw [Bool.not_eq_true]; exact hread)
    · exact iff_of_false (by simp) (by rw [Bool.not_eq_true]; exact hwrite)
    · exact iff_of_false (by simp) (by rw [Bool.not_eq_true]; exact happly)
    · exact iff_of_true rfl rfl
  · exact heq.symm ▸ h

/-- One decision of the arbiter: nothing to decide, an engine granted, or the host granted (R46). -/
theorem grantOnce_cases (s : State) :
    (Settled s ∧ grantOnce s = s) ∨
      (s.port.holder = .idle ∧ engineRequests s = true ∧ grantOnce s = grantEngine s) ∨
      (s.port.holder = .idle ∧ hostRequests s = true ∧ grantOnce s = grantHost s) := by
  unfold grantOnce Settled
  by_cases hidle : s.port.holder = .idle
  · cases hh : hostRequests s <;> cases he : engineRequests s <;> simp [hidle]
    by_cases hl : s.port.lastGrant = .host <;> simp [hl]
  · exact .inl ⟨fun hi => absurd hi hidle, if_neg hidle⟩

theorem portHeld_grantOnce {s : State} (h : PortHeld s) : PortHeld (grantOnce s) := by
  obtain ⟨_, heq⟩ | ⟨hidle, _, heq⟩ | ⟨hidle, _, heq⟩ := grantOnce_cases s
  · exact heq.symm ▸ h
  · exact heq.symm ▸ portHeld_grantEngine h hidle
  · exact heq.symm ▸ portHeld_grantHost h hidle

/-! ## The arbiter leaves nothing waiting -/

theorem settled_of_busy {s : State} (h : s.port.holder ≠ .idle) : Settled s := fun hidle => absurd hidle h

theorem grantOnce_of_settled {s : State} (h : Settled s) : grantOnce s = s := by
  obtain ⟨_, heq⟩ | ⟨hidle, hwaits, _⟩ | ⟨hidle, hwaits, _⟩ := grantOnce_cases s
  · exact heq
  · exact absurd ((h hidle).2.symm.trans hwaits) Bool.false_ne_true
  · exact absurd ((h hidle).1.symm.trans hwaits) Bool.false_ne_true

/-- A grant to an engine makes the port BUSY. -/
theorem grantEngine_busy {s : State} (h : engineRequests s = true) : (grantEngine s).port.holder ≠ .idle := by
  obtain ⟨e, _, heq⟩ | ⟨_, w, c, _, heq⟩ | ⟨hnone, _⟩ := grantEngine_cases s
  · simp [heq]
  · simp [heq]
  · exact absurd (hnone.symm.trans h) Bool.false_ne_true

/-- No host write could be captured or refused now. -/
def PlainOnly (s : State) : Prop := ∀ w, ∃ degraded, classify s w = .plain degraded

/-- With no request of the host, or with one that is not captured and not refused, one decision settles the port. -/
theorem settled_grantOnce {s : State} (h : hostRequests s = false ∨ PlainOnly s) : Settled (grantOnce s) := by
  obtain ⟨hs, heq⟩ | ⟨_, hwaits, heq⟩ | ⟨_, hwaits, heq⟩ := grantOnce_cases s
  · exact heq.symm ▸ hs
  · exact heq.symm ▸ settled_of_busy (grantEngine_busy hwaits)
  · obtain hnone | hplain := h
    · exact absurd (hnone.symm.trans hwaits) Bool.false_ne_true
    · rw [heq]
      refine settled_of_busy ?_
      obtain ⟨hnone, _⟩ | ⟨a, p, _, hgrant⟩ | ⟨w, p, _, hgrant | hgrant | ⟨i, hcaptured, _⟩ | ⟨hrefused, _⟩⟩ :=
        grantHost_cases s
      · exact absurd (hnone.symm.trans hwaits) Bool.false_ne_true
      · simp [hgrant]
      · simp [hgrant, performWrite]
      · simp [hgrant, performWrite]
      · obtain ⟨d, hd⟩ := hplain w
        exact absurd (hd.symm.trans hcaptured) (by simp)
      · obtain ⟨d, hd⟩ := hplain w
        exact absurd (hd.symm.trans hrefused) (by simp)

/-- After a restart a PRIMARY captures nothing: no window is CLEAN and none has a cursor (R172). -/
theorem plainOnly_of_restarted {s : State} {b : Bank} (hrole : s.part.role = .primary)
    (hstates : s.copy.states = restartStates b) : PlainOnly s := by
  intro w
  unfold classify
  split
  · exact ⟨_, rfl⟩
  · rw [hrole]
    cases windowAt s.table.active w.addr.toNat with
    | none => exact ⟨_, rfl⟩
    | some i =>
      have hget : s.copy.states[i] = if b[i].present then .pending else .untracked := by
        rw [hstates]
        simp [restartStates]
      dsimp only
      rw [hget]
      cases b[i].present <;> exact ⟨_, rfl⟩

/-- A granted host transaction makes the port BUSY, or leaves no request of the host, or one that is performed plainly
next: a write refused, or stalled, or re-presented after a restart (R53, R54, R71, R72). -/
theorem grantHost_outcome {s : State} (hwaits : hostRequests s = true) :
    (grantHost s).port.holder ≠ .idle ∨ hostRequests (grantHost s) = false ∨ PlainOnly (grantHost s) := by
  obtain ⟨hnone, _⟩ | ⟨a, p, _, heq⟩ | ⟨w, p, _, heq | heq | ⟨i, hcaptured, heq⟩ | ⟨_, heq⟩⟩ := grantHost_cases s
  · exact absurd (hnone.symm.trans hwaits) Bool.false_ne_true
  · exact .inl (by simp [heq])
  · exact .inl (by simp [heq, performWrite])
  · exact .inl (by simp [heq, performWrite])
  · obtain ⟨rs, rs', _, _, hcapture⟩ | ⟨_, hcapture⟩ | ⟨_, hcapture⟩ :=
      captureWrite_cases w i s.table.active[i].mode (hostGranted s)
    · exact .inl (by rw [heq, hcapture]; simp)
    · exact .inl (by rw [heq, hcapture]; simp)
    · refine .inr ?_
      rw [heq, hcapture, stallWrite_eq]
      split
      · exact .inr (plainOnly_of_restarted (by simpa using role_of_captured hcaptured) (by simp; rfl))
      · split <;> exact .inl rfl
  · exact .inr (.inl (by simp [heq, hostRequests, finishHost]))

/-- Three decisions settle the port (R46, R47). -/
theorem settled_arbitrate (s : State) : Settled (arbitrate s) := by
  have htwice : Settled (grantOnce (grantOnce s)) := by
    obtain ⟨hs, heq⟩ | ⟨_, hwaits, heq⟩ | ⟨_, hwaits, heq⟩ := grantOnce_cases s
    · rw [heq, heq]
      exact hs
    · have hsettled : Settled (grantOnce s) := heq.symm ▸ settled_of_busy (grantEngine_busy hwaits)
      rwa [grantOnce_of_settled hsettled]
    · obtain hbusy | hnext := grantHost_outcome hwaits
      · have hsettled : Settled (grantOnce s) := heq.symm ▸ settled_of_busy hbusy
        rwa [grantOnce_of_settled hsettled]
      · rw [heq]
        exact settled_grantOnce hnext
  unfold arbitrate
  rwa [grantOnce_of_settled htwice]

/-- The arbiter makes a port that is with its holder sound. -/
theorem portSound_arbitrate {s : State} (h : PortHeld s) : PortSound (arbitrate s) :=
  (portSound_iff _).mpr ⟨arbitrate_keeps (P := PortHeld) (fun _ => portHeld_grantOnce) s h, settled_arbitrate s⟩

/-! ## The commands -/

theorem portSound_same {s t : State} (hport : t.port = s.port) (happlyq : t.applyq.engine = s.applyq.engine)
    (hcopy : t.copy.engine = s.copy.engine) (hhost : t.host = s.host) (h : PortSound s) : PortSound t :=
  PortQuiet.portSound ⟨by rw [hport], happlyq, .inl hcopy, .inl (by rw [hhost])⟩ h

theorem portSound_finishEntry (q : Seq) {s : State} (h : PortSound s) (hidle : s.applyq.engine = .idle) :
    PortSound (finishEntry q s) :=
  (portQuiet_endPromotion (completeEntry q s)).portSound
    (portSound_same (s := s) rfl (by rw [hidle]; rfl) rfl rfl h)

theorem portSound_applyTake {s : State} (h : PortSound s) : PortSound (applyTake s) := by
  obtain heq | ⟨e, rest, hidle, _, heq⟩ := applyTake_cases s
  · exact heq.symm ▸ h
  · rw [heq]
    generalize hu : s.setApplyq { s.applyq with queue := rest } = u
    have hsound : PortSound u := hu ▸ portSound_same (s := s) rfl rfl rfl rfl h
    have hengine : u.applyq.engine = .idle := hu ▸ hidle
    have hfinish : ∀ v q, v.port = u.port → v.applyq.engine = u.applyq.engine → v.copy = u.copy → v.host = u.host →
        PortSound (finishEntry q v) := fun v q h1 h2 h3 h4 =>
      portSound_finishEntry q (portSound_same h1 h2 (by rw [h3]) h4 hsound) (h2.trans hengine)
    obtain heq | heq | ⟨records, complete, _, _, heq⟩ | ⟨g, _, heq⟩ | ⟨g, _, heq⟩ := takeEntry_cases e u
    · exact heq ▸ hfinish _ _ (by simp) (by simp [rejectEntry]) (by simp) (by simp)
    · refine heq ▸ portSound_arbitrate ?_
      refine portHeld_of_eq (s := u) rfl rfl rfl ?_ rfl ((portSound_iff u).mp hsound).1
      simp [applyWriting, hengine]
    · exact heq ▸ hfinish _ _ (by simp) (by simp [applyTable]) (by simp) (by simp)
    · exact heq ▸ hfinish _ _ (by simp) (by simp [applyGeneration]) (by simp) (by simp)
    · refine heq ▸ hfinish _ _ (by simp) ?_ (by simp) (by simp)
      unfold applySynced
      split <;> simp

theorem portQuiet_judgeHello (f : HelloFrame) (s : State) : PortQuiet s (judgeHello f s) := by
  have henter : ∀ u, PortQuiet u (enterUp f u) := by
    intro u
    cases hr : u.part.role with
    | primary =>
      rw [enterUp_of_primary f u hr]
      refine ⟨by simp [startSilence, upSession], by simp [startSilence, upSession],
        .inl (by simp [startSilence, upSession]), ?_⟩
      exact release_eased f.next (upSession u)
    | secondary => exact enterUp_of_secondary f u hr ▸ portQuiet_of_eq rfl rfl rfl rfl
    | detached => exact enterUp_of_detached f u hr ▸ portQuiet_of_eq rfl rfl rfl rfl
  have haccept : ∀ u, PortQuiet u (acceptHello f u) := by
    intro u
    have hseen : PortQuiet u (if u.session.seen then u
        else startHelloTimer (askHello (u.setSession { u.session with seen := true }))) := by
      split
      · exact portQuiet_refl u
      · exact portQuiet_of_eq rfl rfl rfl rfl
    unfold acceptHello
    dsimp only
    split
    · exact hseen.trans (henter _)
    · exact hseen
  unfold judgeHello
  split
  · exact haccept s
  · split
    · split
      · exact portQuiet_refl s
      · exact portQuiet_restart .join s
    · split
      · exact (haccept (adopt f s)).start rfl rfl rfl rfl
      · exact portQuiet_refl s
    · exact portQuiet_refl s

theorem portQuiet_receiveHello (f : HelloFrame) (s : State) : PortQuiet s (receiveHello f s) := by
  unfold receiveHello
  split
  · exact portQuiet_enterFault _ s
  · split
    · exact portQuiet_enterFault _ s
    · split
      · split
        · exact portQuiet_of_eq (by simp) (by simp) (by simp) (by simp)
        · exact (portQuiet_loseSession .peerHello s).trans (portQuiet_judgeHello f _)
      · exact portQuiet_judgeHello f s

theorem portQuiet_receiveLink (f : LinkFrame) (s : State) : PortQuiet s (receiveLink f s) := by
  unfold receiveLink
  split
  · split
    · unfold peerReject
      split
      · exact (portQuiet_restart .peerReject
          (s.setSession { s.session with rejectRestarts := s.session.rejectRestarts + 1 })).start rfl rfl rfl rfl
      · exact portQuiet_enterFault .rejectLimit s
    · split
      · have hreleased : PortQuiet s (release f.ack (s.setSender { s.sender with peerLimit := f.limit })) :=
          (portQuiet_release f.ack (s.setSender { s.sender with peerLimit := f.limit })).start rfl rfl rfl rfl
        simp only [takeLink]
        split
        · exact hreleased.trans (portQuiet_of_eq (by simp) (by simp) (by simp) (by simp))
        · exact hreleased
      · exact portQuiet_of_eq (by simp) (by simp) (by simp) (by simp)
  · exact portQuiet_refl s

/-- A part that leaves PRIMARY has no burst in progress (R177). -/
theorem portQuiet_changeRole (r : Role) (s : State) (hreading : s.part.role = .primary → copyReading s = false) :
    PortQuiet s (changeRole r s) := by
  have hleave : PortQuiet s (leaveRole s) := by
    unfold leaveRole
    cases hr : s.part.role with
    | detached => exact portQuiet_refl s
    | secondary => exact portQuiet_of_eq rfl rfl rfl rfl
    | primary =>
      refine ⟨by simp, by simp, ?_, ?_⟩
      · have hnot := hreading hr
        unfold copyReading at hnot
        cases he : s.copy.engine with
        | idle => exact .inl rfl
        | waiting w c => exact .inr ⟨⟨w, c, rfl⟩, rfl⟩
        | reading w c v => simp [he] at hnot
      · exact (discardJournal_eased s).trans (endStall_eased (discardJournal s))
  refine hleave.trans ?_
  cases r with
  | detached => exact portQuiet_of_eq rfl rfl rfl rfl
  | secondary => exact ⟨rfl, rfl, .inl rfl, .inl rfl⟩
  | primary =>
    exact (portQuiet_restart .role (clearSender (clearRejectRestarts ((leaveRole s).setPart
      { (leaveRole s).part with role := .primary, forced := false })))).start rfl rfl rfl rfl

theorem portSound_setRole (args : List Byte) {s : State} (h : PortSound s) :
    PortSound (setRoleEffect args s).state := by
  unfold setRoleEffect
  repeat' split
  case h_2.isFalse.isFalse.isFalse.isFalse.isFalse.isFalse =>
    rename_i r _ _ _ _ _ hreading hrole
    refine (portQuiet_changeRole r s fun hprimary => ?_).portSound h
    by_contra hnot
    exact hreading ⟨hprimary, fun hr => hrole (hr.trans hprimary.symm), by simpa using hnot⟩
  case h_2.isFalse.isFalse.isFalse.isFalse.isFalse.isTrue => exact portSound_same (s := s) rfl rfl rfl rfl h
  all_goals exact h

theorem portSound_softReset {s : State} (h : PortSound s) : PortSound (softReset s) := by
  have hdiscarded : PortHeld (discardJournal s) :=
    PortQuiet.portHeld ⟨by simp, by simp, .inl (by simp), discardJournal_eased s⟩ ((portSound_iff s).mp h).1
  have hhost : hostReading (softResetHost (discardJournal s)) = hostReading (discardJournal s) ∧
      hostWriting (softResetHost (discardJournal s)) = hostWriting (discardJournal s) := by
    unfold softResetHost
    split
    · rename_i w hw
      simp [hostReading, hostWriting, hw]
    · exact ⟨rfl, rfl⟩
  have hcopy : copyReading (softResetBegun s) = copyReading (discardJournal s) := by
    have hreset : copyReading (softResetCopy s) = copyReading s := by
      unfold softResetCopy
      split <;> simp [copyReading, *]
    rw [copyReading_of_copy (s := softResetCopy s) (by simp), hreset]
    exact (copyReading_of_copy (by simp)).symm
  have hbegun : PortHeld (softResetBegun s) := by
    refine portHeld_of_eq (by simp) ?_ ?_ (applyWriting_of_engine (by simp)) hcopy hdiscarded
    · rw [← hhost.1]
      unfold hostReading
      simp
    · rw [← hhost.2]
      unfold hostWriting
      simp
  rw [softReset_eq]
  refine portSound_arbitrate ?_
  have hsynced := (portQuiet_offerSynced (softResetBegun s)).portHeld hbegun
  exact ⟨hsynced.read, hsynced.write, hsynced.apply, hsynced.burst⟩

theorem portQuiet_finishBurst (w : WindowId) (c : Nat) (r : Run) (s : State) : PortQuiet s (finishBurst w c r s) := by
  refine ⟨by simp, by simp, ?_, .inl (by simp)⟩
  have happended := append_withdrawn (.copy r) s
  simp only [finishBurst]
  split
  · refine happended.trans ?_
    exact offerSynced_withdrawn ((append (.copy r) s).setCopy { (append (.copy r) s).copy with
      states := (append (.copy r) s).copy.states.set w .clean })
  · exact happended

theorem portSound_kept : KeptByCommands PortSound := by
  constructor
  case powerReset =>
    intro n s _
    rw [portSound_iff]
    exact ⟨portHeld_of_idle rfl rfl rfl rfl rfl, fun _ => ⟨rfl, rfl⟩⟩
  case softReset => exact fun s h => portSound_softReset h
  case commitTable =>
    intro args s h
    unfold commitTableEffect
    repeat' split
    case isFalse.isFalse.isFalse.isFalse =>
      exact ((portQuiet_offerCommit (s.setTable { s.table with commitPending := true })).start rfl rfl rfl rfl).portSound h
    case isFalse.isFalse.isFalse.isTrue => exact portSound_same (s := s) rfl rfl rfl rfl h
    all_goals exact h
  case setRole => exact fun args s h => portSound_setRole args h
  case promote =>
    intro args s h
    unfold promoteEffect
    repeat' split
    case h_2.isFalse.isFalse.isFalse.isFalse =>
      dsimp only
      split
      · exact ((portQuiet_completePromotion (s.setPart { s.part with promotionPending := true })).start
          rfl rfl rfl rfl).portSound h
      · exact portSound_same (s := s) rfl rfl rfl rfl h
    all_goals exact h
  case linkDisable =>
    intro args s h
    unfold linkDisableEffect
    cases s.session.state with
    | off => exact h
    | seek => exact portSound_same (by simp [answer]) (by simp [answer]) (by simp [answer]) (by simp [answer]) h
    | up =>
      refine PortQuiet.portSound ⟨by simp [answer], by simp [answer], ?_, .inl (by simp [answer])⟩ h
      simpa [answer] using leaveUp_withdrawn .disabled s
    | closing => exact h
    | fault => exact portSound_same (by simp [answer]) (by simp [answer]) (by simp [answer]) (by simp [answer]) h
  case startResync =>
    intro args s h
    unfold startResyncEffect
    split
    · exact (portQuiet_restart .command s).portSound h
    · exact h
  case presentTransaction =>
    intro txn s h
    unfold presentTransaction
    split
    · rename_i hs
      refine portSound_arbitrate (portHeld_of_eq (s := s) rfl ?_ ?_ rfl rfl ((portSound_iff s).mp h).1)
      · simp [hostReading, hs]
      · simp [hostWriting, hs]
    · exact h
  case endHostRead =>
    intro s h
    unfold endHostRead
    split
    · rename_i hport hs
      have hheld := ((portSound_iff s).mp h).1
      refine portSound_arbitrate (portHeld_of_idle rfl rfl rfl ?_ ?_)
      · exact Bool.not_eq_true _ ▸ fun ha => absurd (hheld.apply.mpr ha) (by simp [hport])
      · exact Bool.not_eq_true _ ▸ fun hb => absurd (hheld.burst.mpr hb) (by simp [hport])
    · exact h
  case endHostWrite =>
    intro s h
    unfold endHostWrite
    split
    · rename_i hport hs
      have hheld := ((portSound_iff s).mp h).1
      have happly : applyWriting s = false :=
        Bool.not_eq_true _ ▸ fun ha => absurd (hheld.apply.mpr ha) (by simp [hport])
      have hburst : copyReading s = false :=
        Bool.not_eq_true _ ▸ fun hb => absurd (hheld.burst.mpr hb) (by simp [hport])
      refine portSound_arbitrate ?_
      dsimp only
      split <;> exact portHeld_of_idle rfl rfl rfl happly hburst
    · exact h
  case represent =>
    intro s h
    exact portSound_arbitrate (portHeld_of_eq (by simp) (represent_host s).1 (represent_host s).2.1
      (applyWriting_of_engine (by simp)) (copyReading_of_copy (by simp)) ((portSound_iff s).mp h).1)
  case endApply =>
    intro s h
    unfold endApply
    split
    · rename_i e hport he
      have hheld := ((portSound_iff s).mp h).1
      refine portSound_arbitrate ((portQuiet_endPromotion (completeEntry e.seq
        (freePort (s.setMem (s.mem.writeAll e.content.accesses))))).portHeld ?_)
      refine portHeld_of_idle rfl ?_ ?_ rfl ?_
      · exact Bool.not_eq_true _ ▸ fun hr => absurd (hheld.read.mpr hr) (by simp [hport])
      · exact Bool.not_eq_true _ ▸ fun hw => absurd (hheld.write.mpr hw) (by simp [hport])
      · exact Bool.not_eq_true _ ▸ fun hb => absurd (hheld.burst.mpr hb) (by simp [hport])
    · exact h
  case endBurst =>
    intro w c v s t h hport hengine hend
    have hheld := ((portSound_iff s).mp h).1
    have hfreed : PortHeld (burstFreed c s) := by
      refine portHeld_of_idle rfl ?_ ?_ ?_ rfl
      · exact Bool.not_eq_true _ ▸ fun hr => absurd (hheld.read.mpr hr) (by simp [hport])
      · exact Bool.not_eq_true _ ▸ fun hw => absurd (hheld.write.mpr hw) (by simp [hport])
      · exact Bool.not_eq_true _ ▸ fun ha => absurd (hheld.apply.mpr ha) (by simp [hport])
    obtain rfl | ⟨_, _, rfl⟩ := endBurst_cases w c v s t hend
    · exact portSound_arbitrate hfreed
    · exact portSound_arbitrate ((portQuiet_finishBurst w c _ (burstFreed c s)).portHeld hfreed)
  case applyTake => exact fun s h => portSound_applyTake h
  case copyPick =>
    intro s h
    unfold copyPick
    split
    · split
      · exact portSound_same (s := s) rfl rfl rfl rfl h
      · exact h
    · exact h
  case copyRequest =>
    intro s h
    unfold copyRequest
    split
    · rename_i hidle
      split
      · refine portSound_arbitrate (portHeld_of_eq (s := s) rfl rfl rfl rfl ?_ ((portSound_iff s).mp h).1)
        simp [copyReading, hidle.1]
      · exact h
    · exact h
  case offerCommit => exact fun s h => (portQuiet_offerCommit s).portSound h
  case offerSynced => exact fun s h => (portQuiet_offerSynced s).portSound h
  case endPromotion => exact fun s h => (portQuiet_endPromotion s).portSound h
  case stallExpiry =>
    intro s h
    unfold stallExpiry
    split
    · exact (portQuiet_restart .stall s).portSound h
    · exact h
  case holdExpiry =>
    intro s h
    refine PortQuiet.portSound ⟨by simp, by simp, .inl (by simp), ?_⟩ h
    simp only [holdExpiry]
    split
    · exact endHold_eased .timeout (s.setJournal { s.journal with
        entries := s.journal.entries.map (fun e => { e with held := false }) })
    · exact .inl rfl
  case ackExpiry =>
    intro s h
    simp only [ackExpiry]
    split
    · split
      · exact portSound_same (by simp) (by simp) (by simp) (by simp) h
      · exact ((portQuiet_loseSession .retryLimit (s.setSender { s.sender with
          retryCount := s.sender.retryCount + 1 })).start rfl rfl rfl rfl).portSound h
    · exact h
  case silenceExpiry =>
    intro s h
    unfold silenceExpiry
    split
    · exact (portQuiet_loseSession .silence s).portSound h
    · exact h
  case receiveHello => exact fun f s _ _ h => (portQuiet_receiveHello f s).portSound h
  case receiveBye =>
    intro s _ h
    unfold receiveBye
    split
    · exact (portQuiet_loseSession .peerBye s).portSound h
    · exact h
  case receiveLink => exact fun f s h => (portQuiet_receiveLink f s).portSound h
  case receiveData =>
    intro f s _ h
    refine portSound_same (by simp) ?_ (by simp) (by simp) h
    unfold receiveData acceptData
    (repeat' split) <;> simp
  all_goals
    intros
    refine portSound_same ?_ ?_ ?_ ?_ ‹PortSound _›
    all_goals simp

/-- Settles O60: an operation ends only with its holder's, and each command that frees the port or makes a request runs
the arbiter, which settles the port in three decisions. -/
theorem portStaysSound : Obligations.PortStaysSound :=
  fun _ _ h hstep => step_keeps portSound_kept h hstep

end Sys2Proof.Proofs
end

section
/-! The journal as a list: its seqs, its send point and the places of its states (R4, R5, R7, R15, R17). The index of an
entry says everything: entry i has the seq of the oldest plus i, and is INFLIGHT exactly when i lies before the index of
the send point. -/

namespace Sys2Proof.Proofs

open Sys2Proof.Machine

/-! ## Sequence numbers a journal apart -/

/-- Two seqs within a journal of each other precede as their distances do (R4). -/
theorem seqPrecedes_add (base : Seq) {a b : Nat} (ha : a ≤ 65) (hb : b ≤ 65) :
    seqPrecedes (base + BitVec.ofNat 12 a) (base + BitVec.ofNat 12 b) = decide (a < b) := by
  have hdiff : ((base + BitVec.ofNat 12 b) - (base + BitVec.ofNat 12 a)).toNat = (b + 4096 - a) % 4096 := by bv_omega
  unfold seqPrecedes
  rw [hdiff, decide_eq_decide]
  omega

theorem sub_add_toNat (base : Seq) {a b : Nat} (hab : a ≤ b) (hb : b ≤ 65) :
    ((base + BitVec.ofNat 12 b) - (base + BitVec.ofNat 12 a)).toNat = b - a := by bv_omega

theorem add_ofNat_inj (base : Seq) {a b : Nat} (ha : a ≤ 65) (hb : b ≤ 65)
    (h : base + BitVec.ofNat 12 a = base + BitVec.ofNat 12 b) : a = b := by bv_omega

/-! ## The shape of a journal -/

/-- The seq of the oldest entry, next_seq when there is none (R5). -/
def oldestSeq (j : Journal) : Seq := j.nextSeq - BitVec.ofNat 12 j.entries.length

/-- A journal with consecutive seqs whose send point stands at index k (R4, R5, R7). -/
structure Shape (j : Journal) (k : Nat) : Prop where
  len : j.entries.length ≤ 64
  seq : ∀ i (h : i < j.entries.length), j.entries[i].seq = oldestSeq j + BitVec.ofNat 12 i
  le : k ≤ j.entries.length
  point : j.sendPoint = oldestSeq j + BitVec.ofNat 12 k
  placed : ∀ i (h : i < j.entries.length), j.entries[i].state = .inflight ↔ i < k
  sealed : ∀ i (h : i + 1 < j.entries.length), j.entries[i].state ≠ .opened
  write : ∀ i (h : i < j.entries.length), j.entries[i].state = .opened → j.entries[i].isWrite = true

theorem seqs_iff (j : Journal) : j.entries.map (fun e => e.seq) = seqsBefore j.nextSeq j.entries.length ↔
    ∀ i (h : i < j.entries.length), j.entries[i].seq = oldestSeq j + BitVec.ofNat 12 i := by
  unfold seqsBefore oldestSeq
  constructor
  · intro h i hi
    have hget := List.getElem_of_eq h (i := i) (by simpa using hi)
    simpa using hget
  · intro h
    refine List.ext_getElem (by simp) fun i hi _ => ?_
    simpa using h i (by simpa using hi)


theorem oldest_eq_oldestSeq {j : Journal}
    (h : ∀ i (h : i < j.entries.length), j.entries[i].seq = oldestSeq j + BitVec.ofNat 12 i) : j.oldest = oldestSeq j := by
  unfold Journal.oldest
  split
  · rename_i hnil
    simp [oldestSeq, hnil]
  · rename_i e es hcons
    have h0 := h 0 (by simp [hcons])
    simp only [hcons, List.getElem_cons_zero] at h0
    rw [h0]
    bv_omega

theorem Shape.oldest {j : Journal} {k : Nat} (h : Shape j k) : j.oldest = oldestSeq j := oldest_eq_oldestSeq h.seq

theorem nextSeq_eq {j : Journal} : j.nextSeq = oldestSeq j + BitVec.ofNat 12 j.entries.length := by
  unfold oldestSeq
  bv_omega

/-- The parts of `JournalSound` that look at the journal alone say that it has its shape. -/
theorem shape_iff (j : Journal) :
    (j.entries.length ≤ Config.journalSlots ∧
      j.entries.map (fun e => e.seq) = seqsBefore j.nextSeq j.entries.length ∧
      seqLiesIn j.sendPoint j.oldest j.nextSeq = true ∧ (∀ e ∈ j.entries, entryPlaced j.sendPoint e = true) ∧
      (∀ e ∈ j.entries.dropLast, e.state ≠ .opened) ∧
      (∀ e ∈ j.entries, e.state = .opened → e.isWrite = true)) ↔ ∃ k, Shape j k := by
  have hplaced : ∀ k, k ≤ j.entries.length → j.entries.length ≤ 64 → j.sendPoint = oldestSeq j + BitVec.ofNat 12 k →
      (∀ i (h : i < j.entries.length), j.entries[i].seq = oldestSeq j + BitVec.ofNat 12 i) →
      ((∀ e ∈ j.entries, entryPlaced j.sendPoint e = true) ↔
        ∀ i (h : i < j.entries.length), j.entries[i].state = .inflight ↔ i < k) := by
    intro k hk hlen hpoint hseq
    rw [List.forall_mem_iff_forall_getElem]
    refine forall_congr' fun i => forall_congr' fun hi => ?_
    rw [entryPlaced, hpoint, hseq i hi, seqPrecedes_add _ (by omega) (by omega), beq_iff_eq, decide_eq_decide]
  have hsealed : (∀ e ∈ j.entries.dropLast, e.state ≠ .opened) ↔
      ∀ i (h : i + 1 < j.entries.length), j.entries[i].state ≠ .opened := by
    rw [List.forall_mem_iff_forall_getElem]
    constructor
    · intro h i hi
      have hget := h i (by rw [List.length_dropLast]; omega)
      rwa [List.getElem_dropLast] at hget
    · intro h i hi
      rw [List.length_dropLast] at hi
      rw [List.getElem_dropLast]
      exact h i (by omega)
  have hwrite : (∀ e ∈ j.entries, e.state = .opened → e.isWrite = true) ↔
      ∀ i (h : i < j.entries.length), j.entries[i].state = .opened → j.entries[i].isWrite = true :=
    List.forall_mem_iff_forall_getElem
  constructor
  · rintro ⟨hlen, hseqs, hlies, hp, hs, hw⟩
    have hseq := (seqs_iff j).mp hseqs
    rw [oldest_eq_oldestSeq hseq] at hlies
    have hlen' : j.entries.length ≤ 64 := hlen
    have hk : (j.sendPoint - oldestSeq j).toNat ≤ j.entries.length := by
      have hnext := nextSeq_eq (j := j)
      simp only [seqLiesIn, decide_eq_true_eq] at hlies
      rw [hnext] at hlies
      bv_omega
    have hpoint : j.sendPoint = oldestSeq j + BitVec.ofNat 12 (j.sendPoint - oldestSeq j).toNat := by
      rw [BitVec.ofNat_toNat, BitVec.setWidth_eq]
      bv_omega
    exact ⟨_, hlen, hseq, hk, hpoint, (hplaced _ hk hlen' hpoint hseq).mp hp, hsealed.mp hs, hwrite.mp hw⟩
  · rintro ⟨k, hlen, hseq, hk, hpoint, hp, hs, hw⟩
    refine ⟨hlen, (seqs_iff j).mpr hseq, ?_, (hplaced k hk hlen hpoint hseq).mpr hp, hsealed.mpr hs, hwrite.mpr hw⟩
    rw [oldest_eq_oldestSeq hseq, hpoint, nextSeq_eq (j := j)]
    simp only [seqLiesIn, decide_eq_true_eq]
    bv_omega

/-! ## What keeps the shape -/

/-- Entries changed one by one in their states, and a send point at a new index. -/
theorem Shape.map {j : Journal} {k k' : Nat} (h : Shape j k) (f : Entry → Entry) (hseq : ∀ e, (f e).seq = e.seq)
    (hopen : ∀ e, (f e).state = .opened → e.state = .opened ∧ (f e).isWrite = e.isWrite)
    (hle : k' ≤ j.entries.length)
    (hplaced : ∀ i (hi : i < j.entries.length), (f j.entries[i]).state = .inflight ↔ i < k') {p : Seq}
    (hp : p = oldestSeq j + BitVec.ofNat 12 k') :
    Shape { j with entries := j.entries.map f, sendPoint := p } k' := by
  have hbase : oldestSeq { j with entries := j.entries.map f, sendPoint := p } = oldestSeq j := by simp [oldestSeq]
  refine ⟨by simpa using h.len, fun i hi => ?_, by simpa using hle, by rw [hbase]; exact hp, fun i hi => ?_,
    fun i hi => ?_, fun i hi ho => ?_⟩
  · rw [hbase, List.getElem_map, hseq]
    exact h.seq i (by simpa using hi)
  · rw [List.getElem_map]
    exact hplaced i (by simpa using hi)
  · rw [List.getElem_map]
    exact fun ho => h.sealed i (by simpa using hi) (hopen _ ho).1
  · rw [List.getElem_map] at ho ⊢
    obtain ⟨hwas, hsame⟩ := hopen _ ho
    rw [hsame]
    exact h.write i (by simpa using hi) hwas

/-- Only entries, next_seq and the send point make the shape. -/
theorem Shape.congr {j j' : Journal} {k : Nat} (h : Shape j k) (he : j'.entries = j.entries)
    (hn : j'.nextSeq = j.nextSeq) (hp : j'.sendPoint = j.sendPoint) : Shape j' k := by
  obtain ⟨entries, nextSeq, sendPoint, generation, lastRestart, heldRewind⟩ := j'
  simp only at he hn hp
  subst he hn hp
  exact ⟨h.len, h.seq, h.le, h.point, h.placed, h.sealed, h.write⟩

/-- Sealing keeps the shape (R13). -/
theorem Shape.seal {j : Journal} {k : Nat} (h : Shape j k) : Shape { j with entries := j.entries.map Entry.seal } k := by
  refine (h.map Entry.seal (fun e => e.seal_seq) (fun e ho => ?_) h.le (fun i hi => ?_) h.point).congr rfl rfl rfl
  · rw [Entry.seal_state] at ho
    split at ho
    · cases ho
    · exact absurd ho ‹_›
  · rw [Entry.seal_state, ← h.placed i hi]
    split <;> simp [*]

/-- A new entry at the end, what was there being sealed (R4, R9, R10). -/
theorem Shape.push {j : Journal} {k : Nat} (h : Shape j k) (hlen : j.entries.length < 64)
    (hsealed : ∀ i (hi : i < j.entries.length), j.entries[i].state ≠ .opened) (x : Entry) (hseq : x.seq = j.nextSeq)
    (hstate : x.state ≠ .inflight) (hwrite : x.state = .opened → x.isWrite = true) :
    Shape { j with entries := j.entries ++ [x], nextSeq := j.nextSeq + 1#12 } k := by
  have hbase : oldestSeq { j with entries := j.entries ++ [x], nextSeq := j.nextSeq + 1#12 } = oldestSeq j := by
    simp only [oldestSeq, List.length_append, List.length_singleton]
    bv_omega
  have hle := h.le
  refine ⟨by simp; omega, fun i hi => ?_, by simp; omega, by rw [hbase]; exact h.point, fun i hi => ?_, fun i hi => ?_,
    fun i hi => ?_⟩
  · rw [hbase]
    by_cases hlt : i < j.entries.length
    · rw [List.getElem_append_left hlt]
      exact h.seq i hlt
    · have hlast : i = j.entries.length := by simp at hi; omega
      subst hlast
      simp [hseq, nextSeq_eq (j := j)]
  · by_cases hlt : i < j.entries.length
    · rw [List.getElem_append_left hlt]
      exact h.placed i hlt
    · have hlast : i = j.entries.length := by simp at hi; omega
      subst hlast
      simp [hstate]
      omega
  · rw [List.getElem_append_left (by simp at hi; omega)]
    exact hsealed i _
  · by_cases hlt : i < j.entries.length
    · rw [List.getElem_append_left hlt]
      exact h.write i hlt
    · have hlast : i = j.entries.length := by simp at hi; omega
      subst hlast
      simpa using hwrite

/-- The oldest entries leave; a send point among them comes to the new oldest (R15). -/
theorem Shape.drop {j : Journal} {k : Nat} (h : Shape j k) {a : Nat} (ha : a ≤ j.entries.length) {p : Seq}
    (hp : p = oldestSeq j + BitVec.ofNat 12 (max k a)) :
    Shape { j with entries := j.entries.drop a, sendPoint := p } (k - a) := by
  have hlen := h.len
  have hle := h.le
  have hbase : oldestSeq { j with entries := j.entries.drop a, sendPoint := p } = oldestSeq j + BitVec.ofNat 12 a := by
    simp only [oldestSeq, List.length_drop]
    bv_omega
  refine ⟨by simp; omega, fun i hi => ?_, by simp; omega, ?_, fun i hi => ?_, fun i hi => ?_, fun i hi => ?_⟩
  · rw [hbase, List.getElem_drop, h.seq]
    bv_omega
  · rw [hbase, hp]
    bv_omega
  · rw [List.getElem_drop, h.placed]
    omega
  · rw [List.getElem_drop]
    exact h.sealed _ (by simp at hi; omega)
  · rw [List.getElem_drop]
    exact h.write _ _

/-- A send point moved back: the entries from it on are READY again (R17). -/
theorem Shape.rewind {j : Journal} {k i : Nat} (h : Shape j k) (hi : i ≤ k) {m : Seq}
    (hm : m = oldestSeq j + BitVec.ofNat 12 i) :
    Shape { j with entries := j.entries.map (Entry.rewind m), sendPoint := m } i := by
  have hlen := h.len
  have hle := h.le
  refine h.map (Entry.rewind m) (fun e => e.rewind_seq m) (fun e ho => ?_) (by omega) (fun n hn => ?_) hm
  · unfold Entry.rewind at ho ⊢
    split at ho
    · cases ho
    · rename_i hnot
      exact ⟨ho, by rw [if_neg hnot]⟩
  · have hprec : seqPrecedes j.entries[n].seq m = decide (n < i) := by
      rw [h.seq n hn, hm, seqPrecedes_add _ (by omega) (by omega)]
    have hplaced := h.placed n hn
    unfold Entry.rewind
    rw [hprec]
    by_cases hinflight : j.entries[n].state = .inflight
    · by_cases hlt : n < i <;> simp [hinflight, hlt]
    · have hafter : ¬n < k := fun hlt => hinflight (hplaced.mpr hlt)
      simp [hinflight]
      omega

/-- The entry at the send point is sent (R8). -/
theorem Shape.sent {j : Journal} {k : Nat} (h : Shape j k) (hk : k < j.entries.length)
    (hready : j.entries[k].state = .ready) :
    Shape { j with entries := j.entries.map (Entry.sent j.sendPoint), sendPoint := j.sendPoint + 1#12 } (k + 1) := by
  have hlen := h.len
  refine h.map (Entry.sent j.sendPoint) (fun e => ?_) (fun e ho => ?_) hk (fun n hn => ?_) ?_
  · unfold Entry.sent
    split <;> rfl
  · unfold Entry.sent at ho ⊢
    split at ho
    · cases ho
    · rename_i hnot
      exact ⟨ho, by rw [if_neg hnot]⟩
  · have hplaced := h.placed n hn
    unfold Entry.sent
    by_cases hnk : n = k
    · subst hnk
      simp [h.seq, h.point, hready]
    · have hseq : j.entries[n].seq ≠ j.sendPoint := by
        rw [h.seq n hn, h.point]
        exact fun heq => hnk (add_ofNat_inj _ (by omega) (by omega) heq)
      simp only [hseq, false_and, if_false]
      rw [hplaced]
      omega
  · rw [h.point]
    bv_omega

/-- A journal without entries. -/
theorem shape_nil {j : Journal} (he : j.entries = []) (hp : j.sendPoint = j.nextSeq) : Shape j 0 := by
  refine ⟨by simp [he], fun i hi => ?_, by simp, by simp [oldestSeq, he, hp], fun i hi => ?_, fun i hi => ?_,
    fun i hi => ?_⟩ <;> simp [he] at hi

/-! ## Release -/

theorem length_takeWhile_eq {α : Type} (p : α → Bool) (l : List α) (a : Nat) (ha : a ≤ l.length)
    (hbefore : ∀ i (hi : i < l.length), i < a → p l[i] = true)
    (hat : ∀ hi : a < l.length, p l[a] = false) : (l.takeWhile p).length = a := by
  induction l generalizing a with
  | nil => simp at ha; simp [ha]
  | cons x xs ih =>
    cases a with
    | zero => simp [show p x = false from hat (by simp)]
    | succ a =>
      have hx : p x = true := hbefore 0 (by simp) (by omega)
      rw [List.takeWhile_cons, if_pos hx, List.length_cons]
      rw [ih a (by simpa using ha) (fun i hi hlt => hbefore (i + 1) (by simpa using hi) (by omega))
        (fun hi => hat (by simpa using hi))]

theorem dropWhile_eq_drop {α : Type} (p : α → Bool) (l : List α) : l.dropWhile p = l.drop (l.takeWhile p).length := by
  have hsplit : l.takeWhile p ++ l.dropWhile p = l := List.takeWhile_append_dropWhile
  calc l.dropWhile p = (l.takeWhile p ++ l.dropWhile p).drop (l.takeWhile p).length := (List.drop_left).symm
    _ = l.drop (l.takeWhile p).length := by rw [hsplit]

/-- A release takes the oldest entries, whatever seq it names (R15). -/
theorem Shape.afterRelease {j : Journal} {k : Nat} (h : Shape j k) (n : Seq) :
    j.afterRelease n = { j with
      entries := j.entries.drop (j.gone n).length
      sendPoint := oldestSeq j + BitVec.ofNat 12 (max k (j.gone n).length) } ∧
    Shape (j.afterRelease n) (k - (j.gone n).length) := by
  have hgone : (j.gone n).length ≤ j.entries.length := (List.takeWhile_prefix _).length_le
  have hlen := h.len
  have hle := h.le
  have hdrop := h.drop hgone rfl
  have heq : j.afterRelease n = { j with
      entries := j.entries.drop (j.gone n).length
      sendPoint := oldestSeq j + BitVec.ofNat 12 (max k (j.gone n).length) } := by
    have hold := hdrop.oldest
    have hbase : oldestSeq { j with
        entries := j.entries.drop (j.gone n).length
        sendPoint := oldestSeq j + BitVec.ofNat 12 (max k (j.gone n).length) } =
        oldestSeq j + BitVec.ofNat 12 (j.gone n).length := by
      simp only [oldestSeq, List.length_drop]
      bv_omega
    have hold' : Journal.oldest { j with entries := j.entries.drop (j.gone n).length } =
        oldestSeq j + BitVec.ofNat 12 (j.gone n).length := hold.trans hbase
    unfold Journal.afterRelease
    rw [dropWhile_eq_drop]
    show ({ j with
      entries := j.entries.drop (j.gone n).length
      sendPoint := if seqPrecedes j.sendPoint (Journal.oldest { j with entries := j.entries.drop (j.gone n).length })
        then Journal.oldest { j with entries := j.entries.drop (j.gone n).length } else j.sendPoint } : Journal) = _
    rw [hold', h.point, seqPrecedes_add _ (by omega) (by omega)]
    by_cases hlt : k < (j.gone n).length
    · simp [hlt, Nat.max_eq_right (Nat.le_of_lt hlt)]
    · simp [hlt, Nat.max_eq_left (Nat.le_of_not_lt hlt)]
  exact ⟨heq, heq ▸ hdrop⟩

/-- A release with a seq of the journal takes every entry before it but an OPEN one (R15). -/
theorem Shape.gone_length {j : Journal} {k : Nat} (h : Shape j k) {b : Nat} (hb : b ≤ j.entries.length) {n : Seq}
    (hn : n = oldestSeq j + BitVec.ofNat 12 b) :
    (j.gone n).length = b ∨ ((j.gone n).length + 1 = b ∧ b = j.entries.length ∧
      ∃ hi : b - 1 < j.entries.length, j.entries[b - 1].state = .opened) := by
  have hlen := h.len
  have hrel : ∀ i (hi : i < j.entries.length),
      releasable n j.entries[i] = (decide (i < b) && j.entries[i].state != .opened) := by
    intro i hi
    rw [releasable, h.seq i hi, hn, seqPrecedes_add _ (by omega) (by omega)]
  by_cases hopen : ∃ hi : b - 1 < j.entries.length, 0 < b ∧ j.entries[b - 1].state = .opened
  · obtain ⟨hi, hpos, ho⟩ := hopen
    have hlast : b = j.entries.length := by
      by_contra hne
      exact h.sealed (b - 1) (by omega) ho
    refine .inr ⟨?_, hlast, hi, ho⟩
    have hgone : (j.gone n).length = b - 1 := by
      refine length_takeWhile_eq _ _ _ (by omega) (fun i hi' hlt => ?_) (fun hi' => ?_)
      · rw [hrel i hi']
        simp [h.sealed i (by omega)]
        omega
      · rw [hrel _ hi']
        simp [ho]
    omega
  · left
    refine length_takeWhile_eq _ _ _ hb (fun i hi hlt => ?_) (fun hi => ?_)
    · rw [hrel i hi]
      have hne : j.entries[i].state ≠ .opened := by
        by_cases hlast : i + 1 < j.entries.length
        · exact h.sealed i hlast
        · intro ho
          have hib : b - 1 = i := by omega
          exact hopen ⟨by omega, by omega, by simpa [hib] using ho⟩
      simp [hlt, hne]
    · rw [hrel b hi]
      simp

/-- Up to the send point nothing is OPEN. -/
theorem Shape.gone_length_of_le {j : Journal} {k : Nat} (h : Shape j k) {b : Nat} (hb : b ≤ k) {n : Seq}
    (hn : n = oldestSeq j + BitVec.ofNat 12 b) : (j.gone n).length = b := by
  have hle := h.le
  obtain heq | ⟨heq, _, hi, ho⟩ := h.gone_length (by omega) hn
  · exact heq
  · have hinflight := (h.placed (b - 1) hi).mpr (by omega)
    rw [ho] at hinflight
    cases hinflight

/-- In a journal with its shape a release leaves what `afterRelease` says, taking something or nothing (R15). -/
theorem Shape.release_journal {s : State} {k : Nat} (h : Shape s.journal k) (n : Seq) :
    (release n s).journal = s.journal.afterRelease n := by
  rw [Machine.release_journal]
  split
  · rename_i hnone
    rw [(h.afterRelease n).1, hnone, List.length_nil, List.drop_zero, Nat.max_zero, ← h.point]
  · rfl

/-! ## A held rewind -/

/-- A held rewind that is taken moves the send point back inside the journal (R17, R135). -/
theorem Shape.heldRewindTaken {j : Journal} {k : Nat} (h : Shape j k)
    (hheld : ∀ m, j.heldRewind = some m → (j.sendPoint - m).toNat ≤ 65) :
    ∃ i, Shape (heldRewindTaken j) i ∧ (Proofs.heldRewindTaken j).heldRewind = none := by
  have hlen := h.len
  have hle := h.le
  unfold Proofs.heldRewindTaken
  cases hm : j.heldRewind with
  | none => exact ⟨k, h, hm⟩
  | some m =>
    dsimp only
    have hback := hheld m hm
    have htarget : m = j.sendPoint - BitVec.ofNat 12 (j.sendPoint - m).toNat := by
      rw [BitVec.ofNat_toNat, BitVec.setWidth_eq]
      bv_omega
    generalize (j.sendPoint - m).toNat = d at hback htarget
    obtain ⟨i, hi, hq⟩ : ∃ i, i ≤ k ∧
        (if seqPrecedes m j.oldest = true then j.oldest else m) = oldestSeq j + BitVec.ofNat 12 i := by
      rw [h.oldest]
      by_cases hdk : k < d
      · have hprec : seqPrecedes m (oldestSeq j) = true := by
          rw [htarget, h.point]
          simp only [seqPrecedes, decide_eq_true_eq]
          bv_omega
        exact ⟨0, by omega, by simp [hprec]⟩
      · have hprec : seqPrecedes m (oldestSeq j) = false := by
          rw [htarget, h.point]
          simp only [seqPrecedes, decide_eq_false_iff_not]
          bv_omega
        refine ⟨k - d, by omega, ?_⟩
        rw [hprec, if_neg Bool.false_ne_true, htarget, h.point]
        bv_omega
    rw [hq]
    split
    · exact ⟨k, h.congr rfl rfl rfl, rfl⟩
    · exact ⟨i, (h.rewind hi rfl).congr rfl rfl rfl, rfl⟩

/-! ## Whether an entry is OPEN -/

/-- Whether an entry is OPEN depends on the states only. -/
theorem hasOpen_eq (j : Journal) : j.hasOpen = (j.entries.map (fun e => e.state)).any (fun st => st == .opened) := by
  simp [Journal.hasOpen, Function.comp_def]

theorem hasOpen_seal (j : Journal) : ({ j with entries := j.entries.map Entry.seal } : Journal).hasOpen = false := by
  simp only [Journal.hasOpen, List.any_map, List.any_eq_false]
  intro e _
  simp only [Function.comp_apply, Entry.seal_state]
  split <;> simp [*]

/-- A rewind opens nothing and seals nothing (R17). -/
theorem rewind_state_opened (m : Seq) (e : Entry) : ((e.rewind m).state == .opened) = (e.state == .opened) := by
  unfold Entry.rewind
  split
  · rename_i h
    simp [h.1]
  · rfl

theorem sent_state_opened (q : Seq) (e : Entry) : ((Entry.sent q e).state == .opened) = (e.state == .opened) := by
  unfold Entry.sent
  split
  · rename_i h
    simp [h.2]
  · rfl

theorem hasOpen_map {j : Journal} {f : Entry → Entry} {p : Seq} {m : Option Seq}
    (hf : ∀ e, ((f e).state == .opened) = (e.state == .opened)) :
    ({ j with entries := j.entries.map f, sendPoint := p, heldRewind := m } : Journal).hasOpen = j.hasOpen := by
  simp [Journal.hasOpen, Function.comp_def, hf]

theorem hasOpen_heldRewindTaken (j : Journal) : (heldRewindTaken j).hasOpen = j.hasOpen := by
  unfold heldRewindTaken
  split
  · rfl
  · dsimp only
    generalize (if seqPrecedes _ j.oldest = true then j.oldest else _) = q
    split
    · rfl
    · exact hasOpen_map (rewind_state_opened q)

/-- A release takes no OPEN entry (R15). -/
theorem hasOpen_afterRelease (j : Journal) (n : Seq) : (j.afterRelease n).hasOpen = j.hasOpen := by
  have hsplit : j.entries = j.gone n ++ j.entries.dropWhile (releasable n) :=
    List.takeWhile_append_dropWhile.symm
  have hgone : (j.gone n).any (fun e => e.state == .opened) = false := by
    rw [List.any_eq_false]
    intro e he
    have hrel : releasable n e = true := List.mem_takeWhile_imp he
    simp only [releasable, Bool.and_eq_true, bne_iff_ne] at hrel
    simpa using hrel.2
  show (j.entries.dropWhile (releasable n)).any (fun e => e.state == .opened) = j.hasOpen
  unfold Journal.hasOpen
  conv_rhs => rw [hsplit]
  rw [List.any_append, hgone, Bool.false_or]

/-- Without an OPEN entry no entry is OPEN. -/
theorem not_opened_of_hasOpen {j : Journal} (h : j.hasOpen = false) (i : Nat) (hi : i < j.entries.length) :
    j.entries[i].state ≠ .opened := by
  rw [Journal.hasOpen, List.any_eq_false] at h
  simpa using h _ (List.getElem_mem hi)

/-- The OPEN entry has runs: it is the newest, and a WRITE entry (R7). -/
theorem Shape.openRuns_isSome {j : Journal} {k : Nat} (h : Shape j k) : j.openRuns.isSome = j.hasOpen := by
  cases hopen : j.hasOpen with
  | true =>
    rw [Journal.hasOpen, List.any_eq_true] at hopen
    obtain ⟨e, hmem, ho⟩ := hopen
    obtain ⟨i, hi, rfl⟩ := List.getElem_of_mem hmem
    have ho' : j.entries[i].state = .opened := by simpa using ho
    have hlast : i = j.entries.length - 1 := by
      by_contra hne
      exact h.sealed i (by omega) ho'
    have hw := h.write i hi ho'
    subst hlast
    have hget : j.entries.getLast? = some j.entries[j.entries.length - 1] := by
      rw [List.getLast?_eq_getElem?, List.getElem?_eq_getElem hi]
    unfold Journal.openRuns
    rw [hget]
    generalize j.entries[j.entries.length - 1] = x at ho' hw
    obtain ⟨seq, content, state, held⟩ := x
    simp only at ho'
    subst ho'
    cases content <;> simp_all [Entry.isWrite]
  | false =>
    unfold Journal.openRuns
    split
    · rename_i rs held hget
      have hmem := List.mem_of_getLast? hget
      rw [Journal.hasOpen, List.any_eq_false] at hopen
      exact absurd (beq_self_eq_true EntryState.opened) (hopen _ hmem)
    · rfl

end Sys2Proof.Proofs
end

section
/-! The journal's structure and the DATA frame that carries one of its entries (R4, R5, R7, R8, R17, R70). -/

namespace Sys2Proof.Proofs

open Sys2Proof.Machine

/-! ## The condition with names for its parts -/

/-- The parts of `JournalSound`, the send point at index k. -/
structure JournalFacts (s : State) (k : Nat) : Prop where
  shape : Shape s.journal k
  timer : s.capture.sealTimer.isSome = s.journal.hasOpen
  held : ∀ m, s.journal.heldRewind = some m → sendingData s = true ∧ (s.journal.sendPoint - m).toNat ≤ 64
  sending : ∀ q bytes, s.tx.sending = some { kind := .data q, bytes := bytes } → q = s.journal.sendPoint ∧
    (∃ hk : k < s.journal.entries.length, s.journal.entries[k].state = .ready) ∧ s.session.state = .up

theorem sendingSound_iff {s : State} {k : Nat} (h : Shape s.journal k) : sendingSound s = true ↔
    ∀ q bytes, s.tx.sending = some { kind := .data q, bytes := bytes } → q = s.journal.sendPoint ∧
      (∃ hk : k < s.journal.entries.length, s.journal.entries[k].state = .ready) ∧ s.session.state = .up := by
  have hlen := h.len
  have hle := h.le
  have hat : s.journal.entries.any (fun e => decide (e.seq = s.journal.sendPoint ∧ e.state = .ready)) = true ↔
      ∃ hk : k < s.journal.entries.length, s.journal.entries[k].state = .ready := by
    rw [List.any_eq_true]
    constructor
    · rintro ⟨e, hmem, he⟩
      obtain ⟨i, hi, rfl⟩ := List.getElem_of_mem hmem
      obtain ⟨hseq, hready⟩ := of_decide_eq_true he
      have hik : i = k := by
        rw [h.seq i hi, h.point] at hseq
        exact add_ofNat_inj _ (by omega) (by omega) hseq
      subst hik
      exact ⟨hi, hready⟩
    · rintro ⟨hk, hready⟩
      exact ⟨_, List.getElem_mem hk, by simp [h.seq, h.point, hready]⟩
  unfold sendingSound
  split
  · rename_i q bytes hsending
    constructor
    · intro hs q' bytes' hsending'
      rw [hsending] at hsending'
      cases hsending'
      simp only [Bool.and_eq_true, decide_eq_true_eq] at hs
      obtain ⟨⟨hq, hany⟩, hup⟩ := hs
      subst hq
      exact ⟨rfl, hat.mp hany, hup⟩
    · intro hs
      obtain ⟨hq, hready, hup⟩ := hs q bytes hsending
      subst hq
      rw [Bool.and_eq_true, Bool.and_eq_true]
      exact ⟨⟨decide_eq_true rfl, hat.mpr hready⟩, decide_eq_true hup⟩
  · rename_i hnot
    exact ⟨fun _ q bytes hs => absurd hs (hnot q bytes), fun _ => rfl⟩

theorem journalSound_iff (s : State) : JournalSound s ↔ ∃ k, JournalFacts s k := by
  have hheld : heldRewindSound s = true ↔ ∀ m, s.journal.heldRewind = some m →
      sendingData s = true ∧ (s.journal.sendPoint - m).toNat ≤ 64 := by
    unfold heldRewindSound
    cases s.journal.heldRewind with
    | none => exact ⟨fun _ m hm => absurd hm (by simp), fun _ => rfl⟩
    | some m =>
      dsimp only
      rw [Bool.and_eq_true, decide_eq_true_eq]
      exact ⟨fun hs _ hm => Option.some.inj hm ▸ hs, fun hs => hs m rfl⟩
  constructor
  · rintro ⟨h1, h2, h3, h4, h5, h6, htimer, hrewind, hsending⟩
    obtain ⟨k, hshape⟩ := (shape_iff s.journal).mp ⟨h1, h2, h3, h4, h5, h6⟩
    exact ⟨k, hshape, htimer, hheld.mp hrewind, (sendingSound_iff hshape).mp hsending⟩
  · rintro ⟨k, hshape, htimer, hrewind, hsending⟩
    obtain ⟨h1, h2, h3, h4, h5, h6⟩ := (shape_iff s.journal).mpr ⟨k, hshape⟩
    exact ⟨h1, h2, h3, h4, h5, h6, htimer, hheld.mpr hrewind, (sendingSound_iff hshape).mpr hsending⟩

section
variable {s t : State} {k : Nat}

/-- A DATA frame is in transmission in UP only. -/
theorem JournalFacts.up (h : JournalFacts s k) (hd : sendingData s = true) : s.session.state = .up := by
  obtain ⟨q, bytes, hs⟩ := (sendingData_iff s).mp hd
  exact (h.sending q bytes hs).2.2

theorem JournalFacts.not_sendingData (h : JournalFacts s k) (hup : s.session.state ≠ .up) :
    sendingData s = false := by
  cases hd : sendingData s with
  | false => rfl
  | true => exact absurd (h.up hd) hup

theorem JournalFacts.heldRewind_none (h : JournalFacts s k) (hd : sendingData s = false) :
    s.journal.heldRewind = none := by
  cases hm : s.journal.heldRewind with
  | none => rfl
  | some m => exact absurd ((h.held m hm).1.symm.trans hd) (by simp)

/-- With no DATA frame in transmission only the shape and the seal age timer count. -/
theorem journalFacts_of_not_sending (hshape : Shape s.journal k)
    (htimer : s.capture.sealTimer.isSome = s.journal.hasOpen) (hheld : s.journal.heldRewind = none)
    (hd : sendingData s = false) : JournalFacts s k := by
  refine ⟨hshape, htimer, fun m hm => ?_, fun q bytes hs => ?_⟩
  · rw [hheld] at hm
    cases hm
  · have hdata := (sendingData_iff s).mpr ⟨q, bytes, hs⟩
    rw [hd] at hdata
    cases hdata

theorem sendingData_of_sending (h : t.tx.sending = s.tx.sending) : sendingData t = sendingData s := by
  unfold sendingData
  rw [h]

/-- Entries may change while the send point, what is held and the frame in transmission stay, and the entry that is
being sent stays READY. -/
theorem JournalFacts.step (h : JournalFacts s k) (hshape : Shape t.journal k)
    (htimer : t.capture.sealTimer.isSome = t.journal.hasOpen) (hpoint : t.journal.sendPoint = s.journal.sendPoint)
    (hheld : t.journal.heldRewind = s.journal.heldRewind) (htx : t.tx.sending = s.tx.sending)
    (hstate : t.session.state = s.session.state)
    (hready : ∀ hk : k < s.journal.entries.length, s.journal.entries[k].state = .ready →
      ∃ hk' : k < t.journal.entries.length, t.journal.entries[k].state = .ready) : JournalFacts t k := by
  refine ⟨hshape, htimer, fun m hm => ?_, fun q bytes hs => ?_⟩
  · rw [hheld] at hm
    rw [sendingData_of_sending htx, hpoint]
    exact h.held m hm
  · rw [htx] at hs
    obtain ⟨hq, ⟨hk, hr⟩, hup⟩ := h.sending q bytes hs
    exact ⟨hq.trans hpoint.symm, hready hk hr, hstate.trans hup⟩

theorem JournalFacts.of_eq (h : JournalFacts s k) (hjournal : t.journal = s.journal)
    (hseal : t.capture.sealTimer.isSome = s.capture.sealTimer.isSome) (htx : t.tx.sending = s.tx.sending)
    (hstate : s.session.state = .up → t.session.state = .up) : JournalFacts t k := by
  refine ⟨hjournal ▸ h.shape, by rw [hseal, hjournal]; exact h.timer, fun m hm => ?_, fun q bytes hs => ?_⟩
  · rw [hjournal] at hm ⊢
    rw [sendingData_of_sending htx]
    exact h.held m hm
  · rw [htx] at hs
    rw [hjournal]
    obtain ⟨hq, hr, hup⟩ := h.sending q bytes hs
    exact ⟨hq, hr, hstate hup⟩

end

/-! ## Seal, append, open, merge, hold -/

theorem journalFacts_sealOpen {s : State} {k : Nat} (h : JournalFacts s k) : JournalFacts (sealOpen s) k := by
  refine h.step (by rw [sealOpen_journal]; exact h.shape.seal) ?_ (by rw [sealOpen_journal])
    (by rw [sealOpen_journal]) (by simp) (by simp) (fun hk hr => ?_)
  · rw [sealOpen_journal, hasOpen_seal]
    rfl
  · simp [sealOpen_journal, hk, Entry.seal_state, hr]

theorem hasOpen_sealOpen (s : State) : (sealOpen s).journal.hasOpen = false := by
  rw [sealOpen_journal, hasOpen_seal]

/-- The shape after a new entry, where nothing is OPEN. -/
theorem shape_pushEntry {s : State} {k : Nat} (h : Shape s.journal k) (hopen : s.journal.hasOpen = false)
    (hfree : 0 < s.journal.freeSlots) (c : Content) (st : EntryState) (hst : st ≠ .inflight)
    (hwrite : st = .opened → ∃ rs, c = .write rs) : Shape (pushEntry c st s).journal k := by
  have hlen : s.journal.entries.length < 64 := by
    simp only [Journal.freeSlots, Config.journalSlots] at hfree
    omega
  rw [pushEntry_journal]
  refine (h.push hlen (not_opened_of_hasOpen hopen) _ rfl hst fun ho => ?_).congr rfl rfl rfl
  obtain ⟨rs, rfl⟩ := hwrite ho
  rfl

theorem freeSlots_sealOpen (s : State) : (sealOpen s).journal.freeSlots = s.journal.freeSlots := by
  simp [sealOpen_journal, Journal.freeSlots]

theorem hasOpen_pushEntry (c : Content) (st : EntryState) (s : State) :
    (pushEntry c st s).journal.hasOpen = (s.journal.hasOpen || st == .opened) := by
  simp [pushEntry_journal, Journal.hasOpen]

theorem withdrawCopy_journal (s : State) : (withdrawCopy s).journal = s.journal := by simp

theorem journalFacts_append (c : Content) {s : State} {k : Nat} (h : JournalFacts s k)
    (hfree : 0 < s.journal.freeSlots) : JournalFacts (append c s) k := by
  have hsealed := journalFacts_sealOpen h
  have hopen := hasOpen_sealOpen s
  have hshape : Shape (append c s).journal k := by
    have hpushed := shape_pushEntry hsealed.shape hopen (by rw [freeSlots_sealOpen]; exact hfree) c .ready (by simp)
      (by simp)
    simpa [append] using hpushed
  refine hsealed.step hshape ?_ ?_ ?_ (by simp) (by simp) (fun hk hr => ?_)
  · have htimer : (append c s).capture = (sealOpen s).capture := by simp [append]
    have hnone : (append c s).journal.hasOpen = false := by
      simp [append, hasOpen_pushEntry, hopen]
    rw [htimer, hnone]
    rfl
  · simp [append_journal, sealOpen_journal]
  · simp [append_journal, sealOpen_journal]
  · rw [sealOpen_journal] at hk
    have hk' : k < s.journal.entries.length := by simpa using hk
    refine ⟨by simp [append_journal]; omega, ?_⟩
    simpa [append_journal, sealOpen_journal, List.getElem_append_left, hk'] using hr

theorem journalFacts_openEntry (r : Run) {s : State} {k : Nat} (h : JournalFacts s k)
    (hfree : 0 < s.journal.freeSlots) (hopen : s.journal.hasOpen = false) : JournalFacts (openEntry r s) k := by
  have hshape : Shape (openEntry r s).journal k := by
    have hpushed := shape_pushEntry h.shape hopen hfree (.write [r]) .opened (by simp) (fun _ => ⟨[r], rfl⟩)
    simpa [openEntry] using hpushed
  refine h.step hshape ?_ ?_ ?_ (by simp) (by simp) (fun hk hr => ?_)
  · have hsome : (openEntry r s).journal.hasOpen = true := by
      simp [openEntry, hasOpen_pushEntry]
    rw [hsome]
    simp [openEntry]
  · simp [openEntry_journal, pushEntry_journal]
  · simp [openEntry_journal, pushEntry_journal]
  · refine ⟨by simp [openEntry_journal, pushEntry_journal]; omega, ?_⟩
    simpa [openEntry_journal, pushEntry_journal, List.getElem_append_left, hk] using hr

@[simp] theorem length_mapNewest (f : Entry → Entry) (es : List Entry) : (mapNewest f es).length = es.length := by
  rw [mapNewest_eq]
  cases h : es.getLast? with
  | none => simp_all
  | some e =>
    have hne : es ≠ [] := by
      rintro rfl
      simp at h
    have hpos := List.length_pos_iff.mpr hne
    simp
    omega

/-- Only contents and marks of the newest entry change (R63 to R65, R81). -/
theorem Shape.mapNewest {j : Journal} {k : Nat} (h : Shape j k) (f : Entry → Entry) (hseq : ∀ e, (f e).seq = e.seq)
    (hstate : ∀ e, (f e).state = e.state) (hwrite : ∀ e, e.isWrite = true → (f e).isWrite = true) :
    Shape { j with entries := mapNewest f j.entries } k := by
  have hlength : (Machine.mapNewest f j.entries).length = j.entries.length := length_mapNewest f j.entries
  have hget : ∀ i (hi : i < (Machine.mapNewest f j.entries).length) (hi' : i < j.entries.length),
      (Machine.mapNewest f j.entries)[i].seq = j.entries[i].seq ∧
        (Machine.mapNewest f j.entries)[i].state = j.entries[i].state := by
    intro i hi hi'
    have h1 := List.getElem_of_eq (map_mapNewest (fun e => e.seq) f hseq j.entries) (i := i) (by simpa using hi)
    have h2 := List.getElem_of_eq (map_mapNewest (fun e => e.state) f hstate j.entries) (i := i) (by simpa using hi)
    exact ⟨by simpa using h1, by simpa using h2⟩
  have hbase : oldestSeq { j with entries := Machine.mapNewest f j.entries } = oldestSeq j := by
    simp [oldestSeq, hlength]
  have hmem : ∀ e ∈ Machine.mapNewest f j.entries, e ∈ j.entries ∨ ∃ x ∈ j.entries, e = f x := by
    intro e he
    rw [mapNewest_eq] at he
    obtain hd | hl := List.mem_append.mp he
    · exact .inl (List.dropLast_subset _ hd)
    · simp only [Option.mem_toList, Option.map_eq_some_iff] at hl
      obtain ⟨x, hx, rfl⟩ := hl
      exact .inr ⟨x, List.mem_of_getLast? hx, rfl⟩
  have hwrites : ∀ e ∈ j.entries, e.state = .opened → e.isWrite = true :=
    List.forall_mem_iff_forall_getElem.mpr h.write
  refine ⟨by simpa [hlength] using h.len, fun i hi => ?_, by simpa [hlength] using h.le,
    by rw [hbase]; exact h.point, fun i hi => ?_, fun i hi => ?_, ?_⟩
  · rw [hbase, (hget i hi (hlength ▸ hi)).1]
    exact h.seq i _
  · rw [(hget i hi (hlength ▸ hi)).2]
    exact h.placed i _
  · have hi' : i + 1 < j.entries.length := by simpa using hi
    rw [(hget i (by omega) (by omega)).2]
    exact h.sealed i hi'
  · refine (List.forall_mem_iff_forall_getElem (P := fun e : Entry => e.state = .opened → e.isWrite = true)).mp
      fun e he ho => ?_
    obtain hold | ⟨x, hx, rfl⟩ := hmem e he
    · exact hwrites e hold ho
    · exact hwrite x (hwrites x hx (by rw [← hstate x]; exact ho))

theorem hasOpen_mapNewest {j : Journal} (f : Entry → Entry) (hstate : ∀ e, (f e).state = e.state) :
    ({ j with entries := mapNewest f j.entries } : Journal).hasOpen = j.hasOpen := by
  rw [hasOpen_eq, hasOpen_eq, map_mapNewest (fun e => e.state) f hstate]

theorem journalFacts_mapNewest {s : State} {k : Nat} (h : JournalFacts s k) (f : Entry → Entry)
    (hseq : ∀ e, (f e).seq = e.seq) (hstate : ∀ e, (f e).state = e.state)
    (hwrite : ∀ e, e.isWrite = true → (f e).isWrite = true) :
    JournalFacts (s.setJournal { s.journal with entries := mapNewest f s.journal.entries }) k := by
  refine h.step (h.shape.mapNewest f hseq hstate hwrite) ?_ rfl rfl rfl rfl (fun hk hr => ?_)
  · rw [State.setJournal_journal, hasOpen_mapNewest f hstate]
    exact h.timer
  · have hmap := map_mapNewest (fun e => e.state) f hstate s.journal.entries
    have hk' : k < (mapNewest f s.journal.entries).length := by simpa using hk
    have hget := List.getElem_of_eq hmap (i := k) (by simpa using hk')
    exact ⟨hk', by simpa [hr] using hget⟩

theorem journalFacts_afterCapture (w : HostWrite) (m : Mode) {s : State} {k : Nat} (h : JournalFacts s k) :
    JournalFacts (afterCapture w m s) k := by
  have hperformed : JournalFacts (performWrite w s) k := h.of_eq rfl rfl rfl id
  unfold afterCapture
  cases m with
  | async => exact hperformed
  | sync =>
    dsimp only
    have hsealed := journalFacts_sealOpen hperformed
    split
    · exact (journalFacts_mapNewest hsealed (fun e => { e with held := true }) (fun _ => rfl) (fun _ => rfl)
        (fun _ => id)).of_eq rfl rfl rfl id
    · exact hsealed.of_eq (by simp) (by simp) (by simp) (by simp)

/-! ## Discard, restart, soft reset -/

theorem endStall_sealTimer (s : State) :
    (endStall s).capture.sealTimer.isSome = s.capture.sealTimer.isSome := by
  unfold endStall
  split <;> simp

theorem journalFacts_offerSynced {s : State} {k : Nat} (h : JournalFacts s k) : JournalFacts (offerSynced s) k := by
  simp only [offerSynced]
  split
  · rename_i hdue
    rw [Bool.and_eq_true, decide_eq_true_eq] at hdue
    exact (journalFacts_append (.synced s.journal.generation) h hdue.2).of_eq rfl (by simp) (by simp) (by simp)
  · exact h

/-- The session's part of a restart ends the DATA frame in transmission, if there is one (R109, R127). -/
theorem restartSession_not_sendingData {s : State} (h : sendingData s = true → s.session.state = .up) :
    sendingData (restartSession s) = false := by
  cases hd : sendingData s with
  | true =>
    have hidle : (restartSession s).tx.sending = none := by
      simp [restartSession, h hd, loseSession, enterSeek, startHelloTimer, askHello]
    simp [sendingData, hidle]
  | false =>
    unfold restartSession
    split
    · simp [sendingData, loseSession, enterSeek, startHelloTimer, askHello]
    · rw [← hd]
      exact sendingData_of_sending rfl
    · exact hd

theorem restartSession_journal {s : State} (h : s.journal.heldRewind = none) :
    (restartSession s).journal = s.journal := by
  unfold restartSession
  split
  · simp [loseSession, abortFrame_journal_of_none _ h]
  · simp
  · rfl

/-- A stream restart begins a journal of its own (R20). -/
theorem journalFacts_restart (r : RestartReason) {s : State} (h : sendingData s = true → s.session.state = .up) :
    JournalFacts (restart r s) 0 := by
  have hjournal := restartBegun_journal r s
  have hshape : Shape (restartBegun r s).journal 0 := by
    rw [hjournal]
    have hnil : Shape { s.journal with entries := [], sendPoint := s.journal.nextSeq } 0 := shape_nil rfl rfl
    have hone := hnil.push (by simp) (by simp)
      (newEntry s.journal.nextSeq (.generation (restartGeneration r s)) .ready) rfl (by simp [newEntry])
      (by simp [newEntry])
    exact (hone.push (by simp) (by simp [newEntry]) (newEntry (s.journal.nextSeq + 1#12)
      (.table s.table.active false) .ready) rfl (by simp [newEntry]) (by simp [newEntry])).congr rfl rfl rfl
  have hsend : sendingData (restartBegun r s) = sendingData s := sendingData_of_sending (by simp)
  have hkept := restartSession_journal (s := restartBegun r s) (by rw [hjournal])
  have hcapture : (restartBegun r s).capture.sealTimer = none := by
    simp [restartBegun, append, sealOpen]
  have hbegun : JournalFacts (restartSession (restartBegun r s)) 0 := by
    refine journalFacts_of_not_sending (by rwa [hkept]) ?_ (by rw [hkept, hjournal]) ?_
    · have hsame : (restartSession (restartBegun r s)).capture = (restartBegun r s).capture := by simp
      rw [hkept, hjournal, hsame]
      simp [hcapture, Journal.hasOpen, newEntry]
    · exact restartSession_not_sendingData fun hd => by simpa using h (hsend.symm.trans hd)
  have hcounted : JournalFacts (count .streamRestarts (raise .streamRestart (restartSession (restartBegun r s)))) 0 :=
    hbegun.of_eq rfl rfl rfl id
  rw [restart_eq]
  exact (journalFacts_offerSynced hcounted).of_eq (by simp) (endStall_sealTimer _) (by simp) (by simp)

theorem journalFacts_restart_of {r : RestartReason} {s : State} {k : Nat} (h : JournalFacts s k) :
    JournalFacts (restart r s) 0 := journalFacts_restart r h.up

theorem journalFacts_offerCommit {s : State} {k : Nat} (h : JournalFacts s k) : JournalFacts (offerCommit s) k := by
  obtain heq | ⟨_, hfree, heq⟩ := offerCommit_cases s
  · exact heq.symm ▸ h
  · rw [heq]
    simp only [completeCommit]
    exact journalFacts_offerSynced ((journalFacts_append (.table s.table.staged (allClean s.table.staged
      (identityRule s.table.active s.table.staged s.copy.states))) h hfree).of_eq (by simp) (by simp) (by simp)
        (by simp))

/-- An ABORT ends the DATA frame and lets a held rewind be taken (R17, R109). -/
theorem journalFacts_abortFrame {s : State} {k : Nat} (h : JournalFacts s k) :
    ∃ i, JournalFacts (abortFrame s) i := by
  have hsend : sendingData (abortFrame s) = false := by simp [sendingData]
  have hcapture : (abortFrame s).capture = s.capture := by simp
  by_cases hidle : s.tx.sending = none
  · rw [abortFrame_of_idle s hidle]
    exact ⟨k, h⟩
  · obtain ⟨i, hshape, hnone⟩ := h.shape.heldRewindTaken fun m hm => le_trans (h.held m hm).2 (by norm_num)
    have hjournal : (abortFrame s).journal = heldRewindTaken s.journal := by rw [abortFrame_journal, if_neg hidle]
    refine ⟨i, journalFacts_of_not_sending (hjournal ▸ hshape) ?_ (hjournal ▸ hnone) hsend⟩
    rw [hcapture, hjournal, hasOpen_heldRewindTaken]
    exact h.timer

/-- After an ABORT the session may take any state. -/
theorem JournalFacts.after_abort {s t : State} {k : Nat} (h : JournalFacts s k)
    (hjournal : t.journal = (abortFrame s).journal) (hcapture : t.capture = s.capture)
    (htx : t.tx.sending = none) : ∃ i, JournalFacts t i := by
  obtain ⟨i, hi⟩ := journalFacts_abortFrame h
  have hsend : sendingData (abortFrame s) = false := by simp [sendingData]
  refine ⟨i, journalFacts_of_not_sending (hjournal ▸ hi.shape) ?_ (hjournal ▸ hi.heldRewind_none hsend)
    (by simp [sendingData, htx])⟩
  rw [hcapture, hjournal, ← hi.timer]
  simp

theorem journalFacts_loseSession (r : LossReason) {s : State} {k : Nat} (h : JournalFacts s k) :
    ∃ i, JournalFacts (loseSession r s) i := by
  refine h.after_abort ?_ ?_ ?_ <;> simp [loseSession, enterSeek, startHelloTimer, askHello]

theorem journalFacts_enterFault (c : FaultCause) {s : State} {k : Nat} (h : JournalFacts s k) :
    ∃ i, JournalFacts (enterFault c s) i := by
  by_cases hup : s.session.state = .up
  · rw [enterFault_of_up c s hup]
    refine h.after_abort ?_ ?_ ?_ <;> simp
  · rw [enterFault_of_not_up c s hup]
    exact ⟨k, h.of_eq (by simp) (by simp) (by simp) (fun hs => absurd hs hup)⟩

theorem journalFacts_enterClosing {s : State} {k : Nat} (h : JournalFacts s k) :
    ∃ i, JournalFacts (enterClosing s) i := by
  refine h.after_abort ?_ ?_ ?_ <;> simp [enterClosing]

theorem journalFacts_enterOff {s : State} {k : Nat} (h : JournalFacts s k) : ∃ i, JournalFacts (enterOff s) i := by
  refine h.after_abort ?_ ?_ ?_ <;> simp [enterOff]

/-! ## The arbiter -/

theorem journalFacts_sealedForCapture {s : State} {k : Nat} (h : JournalFacts s k) :
    JournalFacts (sealedForCapture s) k ∧ (sealedForCapture s).journal.hasOpen = false := by
  have hruns := h.shape.openRuns_isSome
  unfold sealedForCapture
  split
  · exact ⟨journalFacts_sealOpen h, hasOpen_sealOpen s⟩
  · exact ⟨h, by simp_all⟩

theorem journalFacts_captureWrite (w : HostWrite) (i : WindowId) (m : Mode) {s : State} {k : Nat}
    (h : JournalFacts s k) : ∃ n, JournalFacts (captureWrite w i m s) n := by
  obtain ⟨hsealed, hopen⟩ := journalFacts_sealedForCapture h
  obtain ⟨rs, rs', _, _, heq⟩ | ⟨hfree, heq⟩ | ⟨_, heq⟩ := captureWrite_cases w i m s
  · rw [heq]
    exact ⟨k, journalFacts_afterCapture w m (journalFacts_mapNewest h (fun e => { e with content := .write rs' })
      (fun _ => rfl) (fun _ => rfl) (fun _ _ => rfl))⟩
  · rw [heq]
    exact ⟨k, journalFacts_afterCapture w m (journalFacts_openEntry _ hsealed hfree hopen)⟩
  · rw [heq, stallWrite_eq]
    have hbegun : JournalFacts (stallBegun w (sealedForCapture s)) k :=
      hsealed.of_eq (by simp) (by simp) (by simp) (by simp)
    split
    · exact ⟨0, (journalFacts_restart_of (r := .stall) hbegun).of_eq (by simp) (by simp) (by simp) (by simp)⟩
    · split <;> exact ⟨k, hbegun.of_eq (by simp) (by simp) (by simp) (by simp)⟩

theorem journalFacts_grantHost {s : State} {k : Nat} (h : JournalFacts s k) : ∃ n, JournalFacts (grantHost s) n := by
  obtain ⟨_, heq⟩ | ⟨a, p, _, heq⟩ | ⟨w, p, _, heq | heq | ⟨i, _, heq⟩ | ⟨_, heq⟩⟩ := grantHost_cases s
  · exact ⟨k, heq.symm ▸ h⟩
  · exact ⟨k, heq ▸ h.of_eq rfl rfl rfl id⟩
  · exact ⟨k, heq ▸ h.of_eq rfl rfl rfl id⟩
  · exact ⟨k, heq ▸ h.of_eq rfl rfl rfl id⟩
  · exact heq ▸ journalFacts_captureWrite w i _ (s := hostGranted s) (h.of_eq rfl rfl rfl id)
  · exact ⟨k, heq ▸ h.of_eq rfl rfl rfl id⟩

/-- A journal that is sound at some index of its send point. -/
def JournalOk (s : State) : Prop := ∃ k, JournalFacts s k

theorem journalOk_arbitrate (s : State) (h : JournalOk s) : JournalOk (arbitrate s) :=
  arbitrate_keeps (P := JournalOk) (fun u => grantOnce_keeps (P := JournalOk) u
    (fun ⟨_, hu⟩ => journalFacts_grantHost hu)
    (fun ⟨n, hu⟩ => ⟨n, hu.of_eq (by simp) (by simp) (by simp) (by simp)⟩)) s h

/-! ## Releases and rewinds -/

/-- The entry being sent stays when a release takes only entries before it (R15). -/
theorem journalFacts_release {s : State} {k b : Nat} (h : JournalFacts s k) (hb : b ≤ k) {n : Seq}
    (hn : n = oldestSeq s.journal + BitVec.ofNat 12 b) :
    JournalFacts (release n s) (k - b) ∧ oldestSeq (release n s).journal = n ∧
      (release n s).journal.sendPoint = s.journal.sendPoint := by
  have hle := h.shape.le
  have hlen := h.shape.len
  have hgone := h.shape.gone_length_of_le hb hn
  obtain ⟨hafter, hshape⟩ := h.shape.afterRelease n
  rw [hgone] at hafter hshape
  have hjournal : (release n s).journal = s.journal.afterRelease n := h.shape.release_journal n
  have hpoint : (release n s).journal.sendPoint = s.journal.sendPoint := by
    rw [hjournal, hafter, h.shape.point]
    simp [Nat.max_eq_left hb]
  have htimer : (release n s).capture.sealTimer.isSome = s.capture.sealTimer.isSome := by
    simp only [release]
    split
    · rfl
    · rw [endStall_sealTimer]
      (repeat' split) <;> simp
  refine ⟨⟨hjournal ▸ hshape, ?_, fun m hm => ?_, fun q bytes hs => ?_⟩, ?_, hpoint⟩
  · rw [htimer, hjournal, hasOpen_afterRelease]
    exact h.timer
  · rw [hpoint, sendingData_of_sending (s := s) (by simp)]
    rw [hjournal, hafter] at hm
    exact h.held m hm
  · obtain ⟨hq, ⟨hk, hr⟩, hup⟩ := h.sending q bytes (by simpa using hs)
    refine ⟨hq.trans hpoint.symm, ?_, by simpa using hup⟩
    rw [hjournal, hafter]
    refine ⟨by simp; omega, ?_⟩
    have hindex : b + (k - b) = k := by omega
    simpa [List.getElem_drop, hindex] using hr
  · rw [hjournal, hafter, hn]
    simp only [oldestSeq, List.length_drop]
    bv_omega

/-- A rewind inside the journal, or one held behind the DATA frame (R17). -/
theorem journalFacts_requestRewind {s : State} {k i : Nat} (h : JournalFacts s k) (hi : i ≤ k) {m : Seq}
    (hm : m = oldestSeq s.journal + BitVec.ofNat 12 i) : JournalOk (requestRewind m s) := by
  have hle := h.shape.le
  have hlen := h.shape.len
  unfold requestRewind
  cases hd : sendingData s with
  | true =>
    refine ⟨k, h.shape.congr rfl rfl rfl, h.timer, fun m' hm' => ⟨hd, ?_⟩, h.sending⟩
    obtain rfl : m = m' := Option.some.inj hm'
    show (s.journal.sendPoint - m).toNat ≤ 64
    rw [hm, h.shape.point, sub_add_toNat _ hi (by omega)]
    omega
  | false =>
    have hnone := h.heldRewind_none hd
    rw [if_neg Bool.false_ne_true]
    unfold rewind
    split
    · exact ⟨k, h⟩
    · refine ⟨i, journalFacts_of_not_sending (h.shape.rewind hi hm) ?_ hnone hd⟩
      rw [State.setJournal_journal]
      rw [show ({ s.journal with entries := s.journal.entries.map (Entry.rewind m), sendPoint := m } : Journal).hasOpen
        = s.journal.hasOpen from hasOpen_map (rewind_state_opened m)]
      exact h.timer

/-! ## Placement at entry to UP -/

/-- Placement puts the send point at the oldest entry that is left (R18). -/
theorem placementPoint_afterRelease {j : Journal} {k b : Nat} (h : Shape j k) (hb : b ≤ j.entries.length) {e : Seq}
    (he : e = oldestSeq j + BitVec.ofNat 12 b) :
    placementPoint e (j.afterRelease e) = oldestSeq (j.afterRelease e) := by
  have hlen := h.len
  obtain ⟨hafter, hshape⟩ := h.afterRelease e
  have hlength : (j.afterRelease e).entries.length = j.entries.length - (j.gone e).length := by rw [hafter]; simp
  have hbase : oldestSeq (j.afterRelease e) = oldestSeq j + BitVec.ofNat 12 (j.gone e).length := by
    have hgone : (j.gone e).length ≤ j.entries.length := (List.takeWhile_prefix _).length_le
    rw [hafter]
    simp only [oldestSeq, List.length_drop]
    bv_omega
  unfold placementPoint
  obtain hgone | ⟨hgone, hlast, hi, ho⟩ := h.gone_length hb he
  · have hsame : oldestSeq (j.afterRelease e) = e := by rw [hbase, hgone, he]
    split
    · rename_i x hx
      have hnot : seqPrecedes x.seq e = false := by
        rw [List.getLast?_eq_getElem?] at hx
        obtain ⟨hpos, hget⟩ := List.getElem?_eq_some_iff.mp hx
        rw [← hget, hshape.seq _ hpos, hsame]
        have hzero : e = e + BitVec.ofNat 12 0 := by simp
        conv_lhs => rhs; rw [hzero]
        rw [seqPrecedes_add _ (by omega) (by omega)]
        simp
      simp [hnot, hsame]
    · exact hsame.symm
  · have hone : (j.afterRelease e).entries.length = 1 := by omega
    have hget : (j.afterRelease e).entries.getLast? = some j.entries[b - 1] := by
      rw [List.getLast?_eq_getElem?, hone, hafter]
      have hindex : (j.gone e).length = b - 1 := by omega
      simp [hindex, List.getElem?_eq_getElem hi]
    have hprec : seqPrecedes j.entries[b - 1].seq e = true := by
      rw [h.seq _ hi, he, seqPrecedes_add _ (by omega) (by omega)]
      simp
      omega
    rw [hget]
    simp only [ho, hprec, and_self, if_true]
    rw [h.seq _ hi, hbase, show (j.gone e).length = b - 1 by omega]

theorem index_of_seqLiesIn {j : Journal} {k : Nat} (h : Shape j k) {e : Seq}
    (he : seqLiesIn e j.oldest j.nextSeq = true) :
    ∃ b, b ≤ j.entries.length ∧ e = oldestSeq j + BitVec.ofNat 12 b := by
  have hlen := h.len
  rw [h.oldest, nextSeq_eq (j := j)] at he
  simp only [seqLiesIn, decide_eq_true_eq] at he
  refine ⟨(e - oldestSeq j).toNat, by bv_omega, ?_⟩
  rw [BitVec.ofNat_toNat, BitVec.setWidth_eq]
  bv_omega

theorem release_sealTimer (n : Seq) (s : State) :
    (release n s).capture.sealTimer.isSome = s.capture.sealTimer.isSome := by
  simp only [release]
  split
  · rfl
  · rw [endStall_sealTimer]
    (repeat' split) <;> simp

/-- The journal that entry to UP places for a peer that expects e (R18). -/
theorem place_journal {s : State} {k : Nat} (h : Shape s.journal k) {e : Seq}
    (he : seqLiesIn e s.journal.oldest s.journal.nextSeq = true) :
    (place e s).journal = { s.journal.afterRelease e with
      entries := (s.journal.afterRelease e).entries.map (Entry.rewind (oldestSeq (s.journal.afterRelease e)))
      sendPoint := oldestSeq (s.journal.afterRelease e) } := by
  obtain ⟨b, hb, hindex⟩ := index_of_seqLiesIn h he
  have hpoint := placementPoint_afterRelease h hb hindex
  simp only [place, State.setJournal_journal, h.release_journal e, hpoint]

theorem journalFacts_place {s : State} {k : Nat} (h : JournalFacts s k) (hd : sendingData s = false) {e : Seq}
    (he : seqLiesIn e s.journal.oldest s.journal.nextSeq = true) : JournalFacts (place e s) 0 := by
  have hjournal := place_journal h.shape he
  have hshape := (h.shape.afterRelease e).2
  refine journalFacts_of_not_sending ?_ ?_ ?_ ?_
  · rw [hjournal]
    exact hshape.rewind (Nat.zero_le _) (by simp)
  · have hcapture : (place e s).capture = (release e s).capture := by simp [place]
    rw [hcapture, release_sealTimer, hjournal]
    have hopen : ({ s.journal.afterRelease e with
        entries := (s.journal.afterRelease e).entries.map (Entry.rewind (oldestSeq (s.journal.afterRelease e)))
        sendPoint := oldestSeq (s.journal.afterRelease e) } : Journal).hasOpen = (s.journal.afterRelease e).hasOpen :=
      hasOpen_map (rewind_state_opened _)
    rw [hopen, hasOpen_afterRelease]
    exact h.timer
  · rw [hjournal, (h.shape.afterRelease e).1]
    exact h.heldRewind_none hd
  · rw [← hd]
    exact sendingData_of_sending (by simp)

theorem journalFacts_enterUp (f : HelloFrame) {s : State} {k : Nat} (h : JournalFacts s k)
    (hd : sendingData s = false)
    (hnext : s.part.role = .primary → seqLiesIn f.next s.journal.oldest s.journal.nextSeq = true) :
    JournalOk (enterUp f s) := by
  have hup : JournalFacts (upSession s) k := h.of_eq rfl rfl rfl (fun _ => rfl)
  cases hr : s.part.role with
  | primary =>
    rw [enterUp_of_primary f s hr]
    have hplaced := journalFacts_place (s := upSession s) hup hd (hnext hr)
    exact ⟨0, hplaced.of_eq rfl rfl rfl id⟩
  | secondary => exact ⟨k, enterUp_of_secondary f s hr ▸ hup.of_eq rfl rfl rfl id⟩
  | detached => exact ⟨k, enterUp_of_detached f s hr ▸ hup.of_eq rfl rfl rfl id⟩

theorem journalOk_acceptHello (f : HelloFrame) {s : State} {k : Nat} (h : JournalFacts s k)
    (hd : sendingData s = false)
    (hnext : s.part.role = .primary → seqLiesIn f.next s.journal.oldest s.journal.nextSeq = true) :
    JournalOk (acceptHello f s) := by
  unfold acceptHello
  by_cases hseen : s.session.seen = true
  · simp only [hseen, if_true]
    split
    · exact journalFacts_enterUp f h hd hnext
    · exact ⟨k, h⟩
  · simp only [hseen, Bool.false_eq_true, if_false]
    have hasked : JournalFacts (startHelloTimer (askHello (s.setSession { s.session with seen := true }))) k :=
      h.of_eq rfl rfl rfl id
    split
    · exact journalFacts_enterUp f hasked hd hnext
    · exact ⟨k, hasked⟩

theorem journalOk_judgeHello (f : HelloFrame) {s : State} {k : Nat} (h : JournalFacts s k)
    (hd : sendingData s = false) : JournalOk (judgeHello f s) := by
  unfold judgeHello
  split
  · rename_i hresumes
    refine journalOk_acceptHello f h hd fun hr => ?_
    simp only [resumable, hr, Bool.and_eq_true] at hresumes
    exact hresumes.2
  · split
    · split
      · exact ⟨k, h⟩
      · exact ⟨0, journalFacts_restart_of h⟩
    · rename_i hr
      split
      · exact journalOk_acceptHello f (s := adopt f s) (h.of_eq rfl rfl rfl id) hd
          (fun hp => absurd (hp.symm.trans hr) (by simp))
      · exact ⟨k, h⟩
    · exact ⟨k, h⟩

theorem journalOk_receiveHello (f : HelloFrame) {s : State} (h : JournalOk s) : JournalOk (receiveHello f s) := by
  obtain ⟨k, h⟩ := h
  unfold receiveHello
  split
  · exact journalFacts_enterFault _ h
  · split
    · exact journalFacts_enterFault _ h
    · split
      · split
        · exact ⟨k, h.of_eq (by simp) (by simp) (by unfold answerHello; split <;> rfl)
            (by unfold answerHello; split <;> exact id)⟩
        · obtain ⟨i, hlost⟩ := journalFacts_loseSession .peerHello h
          exact journalOk_judgeHello f hlost (by simp [sendingData, loseSession, enterSeek, startHelloTimer, askHello])
      · rename_i hup
        exact journalOk_judgeHello f h (h.not_sendingData hup)

/-! ## The other commands -/

theorem journalOk_receiveLink (f : LinkFrame) {s : State} (h : JournalOk s) : JournalOk (receiveLink f s) := by
  obtain ⟨k, h⟩ := h
  unfold receiveLink
  split
  · split
    · unfold peerReject
      split
      · have hraised : JournalFacts (s.setSession { s.session with rejectRestarts := s.session.rejectRestarts + 1 }) k :=
          h.of_eq rfl rfl rfl id
        exact ⟨0, journalFacts_restart_of hraised⟩
      · exact journalFacts_enterFault _ h
    · split
      · rename_i hrange
        simp only [linkInRange, Bool.and_eq_true] at hrange
        have hle := h.shape.le
        have hlen := h.shape.len
        obtain ⟨b, hb, hack⟩ : ∃ b, b ≤ k ∧ f.ack = oldestSeq s.journal + BitVec.ofNat 12 b := by
          have hlies := hrange.1
          rw [h.shape.oldest, h.shape.point] at hlies
          simp only [seqLiesIn, decide_eq_true_eq] at hlies
          refine ⟨(f.ack - oldestSeq s.journal).toNat, by bv_omega, ?_⟩
          rw [BitVec.ofNat_toNat, BitVec.setWidth_eq]
          bv_omega
        have hlimit : JournalFacts (s.setSender { s.sender with peerLimit := f.limit }) k := h.of_eq rfl rfl rfl id
        obtain ⟨hreleased, hold, _⟩ := journalFacts_release hlimit hb hack
        simp only [takeLink]
        split
        · obtain ⟨i, hi⟩ := journalFacts_requestRewind hreleased (Nat.zero_le _)
            (m := f.ack) (by rw [hold]; simp)
          exact ⟨i, hi.of_eq rfl rfl rfl id⟩
        · exact ⟨_, hreleased⟩
      · exact ⟨k, h.of_eq rfl rfl rfl id⟩
  · exact ⟨k, h⟩

theorem journalOk_ackExpiry {s : State} (h : JournalOk s) : JournalOk (ackExpiry s) := by
  obtain ⟨k, h⟩ := h
  have hraised : JournalFacts (s.setSender { s.sender with retryCount := s.sender.retryCount + 1 }) k :=
    h.of_eq rfl rfl rfl id
  simp only [ackExpiry]
  split
  · split
    · obtain ⟨i, hi⟩ := journalFacts_requestRewind hraised (Nat.zero_le _)
        (m := s.journal.oldest) (by rw [h.shape.oldest]; simp)
      exact ⟨i, hi.of_eq rfl rfl rfl id⟩
    · exact journalFacts_loseSession _ hraised
  · exact ⟨k, h⟩

/-- The END of a DATA frame moves the send point past its entry (R8). -/
theorem journalOk_endDataFrame {s : State} (h : JournalOk s) : JournalOk (endDataFrame s) := by
  obtain ⟨k, h⟩ := h
  cases hd : sendingData s with
  | false => exact ⟨k, (endDataFrame_of_not_sending s hd).symm ▸ h⟩
  | true =>
    obtain ⟨q, bytes, hsending⟩ := (sendingData_iff s).mp hd
    obtain ⟨hq, ⟨hk, hready⟩, _⟩ := h.sending q bytes hsending
    subst hq
    have hsent := h.shape.sent hk hready
    obtain ⟨i, hshape, hnone⟩ := hsent.heldRewindTaken fun m hm => by
      have hback := (h.held m hm).2
      show (s.journal.sendPoint + 1#12 - m).toNat ≤ 65
      bv_omega
    have hjournal := endDataFrame_journal s _ bytes hsending
    refine ⟨i, journalFacts_of_not_sending (hjournal ▸ hshape) ?_ (hjournal ▸ hnone) ?_⟩
    · rw [hjournal, hasOpen_heldRewindTaken]
      have hopen : ({ s.journal with
          entries := s.journal.entries.map (Entry.sent s.journal.sendPoint)
          sendPoint := s.journal.sendPoint + 1#12 } : Journal).hasOpen = s.journal.hasOpen :=
        hasOpen_map (sent_state_opened _)
      rw [hopen, ← h.timer]
      simp
    · have hidle : (endDataFrame s).tx.sending = none := by
        simp only [endDataFrame, hsending]
        split <;> simp [endFrame]
      simp [sendingData, hidle]

/-- A DATA frame starts with the READY entry at the send point (R106, R133). -/
theorem journalOk_startFrame {s : State} (h : JournalOk s) : JournalOk (startFrame s) := by
  obtain ⟨k, h⟩ := h
  obtain heq | ⟨kind, f, hidle, hnext, heq⟩ := startFrame_cases s
  · exact ⟨k, heq.symm ▸ h⟩
  · have hjournal : (startFrame s).journal = s.journal := by simp
    have hcapture : (startFrame s).capture = s.capture := by simp
    have hstate : (startFrame s).session = s.session := by simp
    have hsending : (startFrame s).tx.sending = some { kind := kind, bytes := f.bytes } := by rw [heq]; rfl
    have hnone := h.heldRewind_none (by simp [sendingData, hidle])
    refine ⟨k, ⟨hjournal ▸ h.shape, by rw [hcapture, hjournal]; exact h.timer, fun m hm => ?_, fun q bytes hs => ?_⟩⟩
    · rw [hjournal, hnone] at hm
      cases hm
    · rw [hsending] at hs
      have hkind : kind = .data q := congrArg TxFrame.kind (Option.some.inj hs)
      rw [hjournal, hstate]
      obtain ⟨r, rfl, _⟩ | ⟨_, rfl, _⟩ | ⟨_, rfl, _⟩ | ⟨_, hup, _, e, hentry, hready, rfl⟩ :=
        nextFrame_cases s kind f hnext
      · cases hkind
      · cases hkind
      · cases hkind
      · have hseq : e.seq = s.journal.sendPoint := by simpa using List.find?_some hentry
        obtain ⟨i, hi, rfl⟩ := List.getElem_of_mem (List.mem_of_find?_eq_some hentry)
        have hle := h.shape.le
        have hlen := h.shape.len
        have hik : i = k := by
          rw [h.shape.seq i hi, h.shape.point] at hseq
          exact add_ofNat_inj _ (by omega) (by omega) hseq
        subst hik
        exact ⟨(TxKind.data.inj hkind).symm.trans hseq, ⟨hi, hready⟩, hup⟩

theorem journalOk_softReset (s : State) : JournalOk (softReset s) := by
  have hbegun : JournalFacts (softResetBegun s) 0 := by
    refine journalFacts_of_not_sending ?_ ?_ ?_ ?_
    · rw [softResetBegun_journal]
      exact shape_nil rfl rfl
    · simp [softResetBegun_journal, Journal.hasOpen]
    · simp [softResetBegun_journal]
    · simp [sendingData]
  rw [softReset_eq]
  exact journalOk_arbitrate _ ⟨0, (journalFacts_offerSynced hbegun).of_eq rfl rfl rfl id⟩

theorem journalOk_changeRole (r : Role) {s : State} (h : JournalOk s) (hoff : s.session.state = .off) :
    JournalOk (changeRole r s) := by
  obtain ⟨k, h⟩ := h
  have hd := h.not_sendingData (by simp [hoff])
  have hleft : ∃ i, JournalFacts (leaveRole s) i := by
    unfold leaveRole
    cases s.part.role with
    | detached => exact ⟨k, h⟩
    | secondary => exact ⟨k, h.of_eq rfl rfl rfl id⟩
    | primary =>
      have hjournal : (leavePrimary s).journal = (discardJournal s).journal := by simp [leavePrimary]
      refine ⟨0, journalFacts_of_not_sending ?_ ?_ ?_ ?_⟩
      · rw [hjournal, discardJournal_journal]
        exact shape_nil rfl rfl
      · rw [hjournal, discardJournal_journal]
        simp [leavePrimary, Journal.hasOpen]
      · rw [hjournal, discardJournal_journal]
      · rw [← hd]
        exact sendingData_of_sending (by simp)
  obtain ⟨i, hi⟩ := hleft
  cases r with
  | detached => exact ⟨i, hi.of_eq rfl rfl rfl id⟩
  | secondary => exact ⟨i, hi.of_eq rfl rfl rfl id⟩
  | primary =>
    have hgone : JournalFacts (clearSender (clearRejectRestarts ((leaveRole s).setPart
      { (leaveRole s).part with role := .primary, forced := false }))) i := hi.of_eq rfl rfl rfl id
    exact ⟨0, journalFacts_restart_of hgone⟩

theorem journalOk_of_eq {s t : State} (hjournal : t.journal = s.journal)
    (hseal : t.capture.sealTimer.isSome = s.capture.sealTimer.isSome) (htx : t.tx.sending = s.tx.sending)
    (hstate : s.session.state = .up → t.session.state = .up) (h : JournalOk s) : JournalOk t := by
  obtain ⟨k, h⟩ := h
  exact ⟨k, h.of_eq hjournal hseal htx hstate⟩

theorem journalOk_restart (r : RestartReason) {s : State} (h : JournalOk s) : JournalOk (restart r s) := by
  obtain ⟨k, h⟩ := h
  exact ⟨0, journalFacts_restart_of h⟩

theorem journalOk_endPromotion {s : State} (h : JournalOk s) : JournalOk (endPromotion s) := by
  obtain heq | ⟨_, _, heq⟩ := endPromotion_cases s
  · exact heq.symm ▸ h
  · rw [heq, completePromotion_eq]
    exact journalOk_of_eq (s := restart .promote (promoted s)) rfl rfl rfl id (journalOk_restart .promote
      (journalOk_of_eq (s := s) (t := promoted s) rfl rfl rfl id h))

theorem journalOk_finishEntry (q : Seq) {s : State} (h : JournalOk s) : JournalOk (finishEntry q s) :=
  journalOk_endPromotion (journalOk_of_eq (s := s) rfl rfl rfl id h)

theorem journalOk_applyTake {s : State} (h : JournalOk s) : JournalOk (applyTake s) := by
  obtain heq | ⟨e, rest, _, _, heq⟩ := applyTake_cases s
  · exact heq.symm ▸ h
  · rw [heq]
    generalize hu : s.setApplyq { s.applyq with queue := rest } = u
    have hok : JournalOk u := hu ▸ journalOk_of_eq (s := s) rfl rfl rfl id h
    have hfinish : ∀ v q, v.journal = u.journal → v.capture = u.capture → v.tx = u.tx → v.session = u.session →
        JournalOk (finishEntry q v) := fun v q h1 h2 h3 h4 => journalOk_finishEntry q
      (journalOk_of_eq h1 (by rw [h2]) (by rw [h3]) (by rw [h4]; exact id) hok)
    obtain heq | heq | ⟨records, complete, _, _, heq⟩ | ⟨g, _, heq⟩ | ⟨g, _, heq⟩ := takeEntry_cases e u
    · exact heq ▸ hfinish _ _ (by simp) (by simp) (by simp) (by simp)
    · exact heq ▸ journalOk_arbitrate _ (journalOk_of_eq (s := u) rfl rfl rfl id hok)
    · exact heq ▸ hfinish _ _ (by simp) (by simp) (by simp) (by simp)
    · exact heq ▸ hfinish _ _ (by simp) (by simp) (by simp) (by simp)
    · exact heq ▸ hfinish _ _ (by simp) (by simp) (by simp) (by simp)

theorem journalOk_finishBurst (w : WindowId) (c : Nat) (r : Run) {s : State} (h : JournalOk s)
    (hfree : 0 < s.journal.freeSlots) : JournalOk (finishBurst w c r s) := by
  obtain ⟨k, h⟩ := h
  have happended := journalFacts_append (.copy r) h hfree
  simp only [finishBurst]
  split
  · exact ⟨k, journalFacts_offerSynced (happended.of_eq rfl rfl rfl id)⟩
  · exact ⟨k, happended.of_eq rfl rfl rfl id⟩

/-- Only the marks change when a hold times out (R84). -/
theorem journalOk_holdExpiry {s : State} (h : JournalOk s) : JournalOk (holdExpiry s) := by
  obtain ⟨k, h⟩ := h
  simp only [holdExpiry]
  split
  · have hcleared : JournalFacts (s.setJournal { s.journal with
        entries := s.journal.entries.map (fun e => { e with held := false }) }) k := by
      refine h.step ((h.shape.map (fun e => { e with held := false }) (fun _ => rfl) (fun _ ho => ⟨ho, rfl⟩) h.shape.le
        h.shape.placed h.shape.point).congr rfl rfl rfl) ?_ rfl rfl rfl rfl (fun hk hr => ⟨by simpa using hk, by simpa using hr⟩)
      rw [State.setJournal_capture, h.timer]
      simp [Journal.hasOpen, Function.comp_def]
    exact ⟨k, hcleared.of_eq (by simp) (by simp) (by simp) (by simp)⟩
  · exact ⟨k, h⟩

/-- A frame other than a DATA frame that ends leaves the journal (R108). -/
theorem journalOk_endFrame {s : State} (h : JournalOk s) (hd : sendingData s = false) : JournalOk (endFrame s) := by
  obtain ⟨k, h⟩ := h
  exact ⟨k, journalFacts_of_not_sending h.shape h.timer (h.heldRewind_none hd) rfl⟩

theorem journalOk_helloExpiry {s : State} (h : JournalOk s) : JournalOk (helloExpiry s) := by
  refine journalOk_of_eq (by simp) (by simp) ?_ ?_ h
  · unfold helloExpiry
    (repeat' split) <;> rfl
  · unfold helloExpiry
    (repeat' split) <;> exact id

theorem journalOk_setRole (args : List Byte) {s : State} (h : JournalOk s) :
    JournalOk (setRoleEffect args s).state := by
  unfold setRoleEffect
  repeat' split
  case h_2.isFalse.isFalse.isFalse.isFalse.isFalse.isFalse =>
    rename_i hoff _ _ _ _ _
    exact journalOk_changeRole _ h (not_not.mp hoff)
  case h_2.isFalse.isFalse.isFalse.isFalse.isFalse.isTrue => exact journalOk_of_eq (s := s) rfl rfl rfl id h
  all_goals exact h

theorem journalOk_promote (args : List Byte) {s : State} (h : JournalOk s) :
    JournalOk (promoteEffect args s).state := by
  unfold promoteEffect
  repeat' split
  case h_2.isFalse.isFalse.isFalse.isFalse =>
    have hset : JournalOk (s.setPart { s.part with promotionPending := true }) :=
      journalOk_of_eq (s := s) rfl rfl rfl id h
    dsimp only
    split
    · rename_i hcount
      rw [answer_state, ← endPromotion_of_drained _ rfl hcount]
      exact journalOk_endPromotion hset
    · exact hset
  all_goals exact h

theorem journalOk_commitTable (args : List Byte) {s : State} (h : JournalOk s) :
    JournalOk (commitTableEffect args s).state := by
  obtain ⟨k, h⟩ := h
  unfold commitTableEffect
  repeat' split
  case isFalse.isFalse.isFalse.isFalse =>
    have hset : JournalFacts (s.setTable { s.table with commitPending := true }) k := h.of_eq rfl rfl rfl id
    exact ⟨k, journalFacts_offerCommit hset⟩
  case isFalse.isFalse.isFalse.isTrue => exact ⟨k, h.of_eq rfl rfl rfl id⟩
  all_goals exact ⟨k, h⟩

theorem journalOk_linkDisable (args : List Byte) {s : State} (h : JournalOk s) :
    JournalOk (linkDisableEffect args s).state := by
  obtain ⟨k, h⟩ := h
  unfold linkDisableEffect
  cases s.session.state with
  | off => exact ⟨k, h⟩
  | seek => exact journalFacts_enterClosing h
  | up =>
    have hidle : (leaveUp .disabled s).tx.sending = none := by simp
    refine h.after_abort ?_ ?_ ?_
    · simp [answer, enterClosing, abortFrame_of_idle _ hidle]
    · simp [answer]
    · simp [answer, enterClosing]
  | closing => exact ⟨k, h⟩
  | fault => exact journalFacts_enterOff h

theorem journalOk_kept : KeptByCommands JournalOk := by
  constructor
  case powerReset =>
    exact fun n s _ => ⟨0, journalFacts_of_not_sending (shape_nil rfl rfl) rfl rfl rfl⟩
  case softReset => exact fun s _ => journalOk_softReset s
  case commitTable => exact fun args s h => journalOk_commitTable args h
  case setRole => exact fun args s h => journalOk_setRole args h
  case promote => exact fun args s h => journalOk_promote args h
  case linkEnable =>
    intro args s h
    obtain ⟨k, h⟩ := h
    unfold linkEnableEffect
    repeat' split
    case isFalse.isFalse.isFalse =>
      rename_i hoff _ _
      exact ⟨k, h.of_eq rfl rfl rfl (fun hup => by simp [not_not.mp hoff] at hup)⟩
    all_goals exact ⟨k, h⟩
  case linkDisable => exact fun args s h => journalOk_linkDisable args h
  case startResync =>
    intro args s h
    unfold startResyncEffect
    split
    · exact journalOk_restart .command h
    · exact h
  case presentTransaction =>
    intro txn s h
    unfold presentTransaction
    split
    · exact journalOk_arbitrate _ (journalOk_of_eq (s := s) rfl rfl rfl id h)
    · exact h
  case endHostRead =>
    intro s h
    unfold endHostRead
    split
    · exact journalOk_arbitrate _ (journalOk_of_eq (s := s) rfl rfl rfl id h)
    · exact h
  case endHostWrite =>
    intro s h
    unfold endHostWrite
    split
    · refine journalOk_arbitrate _ ?_
      dsimp only
      split <;> exact journalOk_of_eq (s := s) rfl rfl rfl id h
    · exact h
  case represent =>
    exact fun s h => journalOk_arbitrate _ (journalOk_of_eq (by simp) (by simp) (by simp) (by simp) h)
  case endApply =>
    intro s h
    unfold endApply
    split
    · exact journalOk_arbitrate _ (journalOk_finishEntry _ (journalOk_of_eq (s := s) rfl rfl rfl id h))
    · exact h
  case endBurst =>
    intro w c v s t h _ _ hend
    have hfreed : JournalOk (burstFreed c s) := journalOk_of_eq (s := s) rfl rfl rfl id h
    obtain rfl | ⟨_, hfree, rfl⟩ := endBurst_cases w c v s t hend
    · exact journalOk_arbitrate _ hfreed
    · exact journalOk_arbitrate _ (journalOk_finishBurst w c _ hfreed (by simpa using hfree))
  case applyTake => exact fun s h => journalOk_applyTake h
  case copyRequest =>
    intro s h
    unfold copyRequest
    split
    · split
      · exact journalOk_arbitrate _ (journalOk_of_eq (s := s) rfl rfl rfl id h)
      · exact h
    · exact h
  case offerCommit => exact fun s ⟨k, h⟩ => ⟨k, journalFacts_offerCommit h⟩
  case offerSynced => exact fun s ⟨k, h⟩ => ⟨k, journalFacts_offerSynced h⟩
  case endPromotion => exact fun s h => journalOk_endPromotion h
  case sealAge =>
    intro s h
    unfold sealAge
    split
    · exact h.imp fun _ => journalFacts_sealOpen
    · exact h
  case stallExpiry =>
    intro s h
    unfold stallExpiry
    split
    · exact journalOk_restart .stall h
    · exact h
  case holdExpiry => exact fun s h => journalOk_holdExpiry h
  case ackExpiry => exact fun s h => journalOk_ackExpiry h
  case silenceExpiry =>
    intro s h
    unfold silenceExpiry
    split
    · exact h.elim fun _ => journalFacts_loseSession .silence
    · exact h
  case helloExpiry => exact fun s h => journalOk_helloExpiry h
  case receiveHello => exact fun f s _ _ h => journalOk_receiveHello f h
  case receiveBye =>
    intro s _ h
    unfold receiveBye
    split
    · exact h.elim fun _ => journalFacts_loseSession .peerBye
    · exact h
  case receiveLink => exact fun f s h => journalOk_receiveLink f h
  case startFrame => exact fun s h => journalOk_startFrame h
  case endDataFrame => exact fun s h => journalOk_endDataFrame h
  case endControlFrame =>
    intro s h
    unfold endControlFrame
    split
    · exact journalOk_endFrame h (by simp [sendingData, *])
    · exact journalOk_endFrame h (by simp [sendingData, *])
    · exact h
  case endByeDisabled =>
    intro s h
    unfold endByeDisabled
    split
    · exact (journalOk_endFrame h (by simp [sendingData, *])).elim fun _ => journalFacts_enterOff
    · exact h
  case endByeFault =>
    intro s h
    unfold endByeFault
    split
    · exact journalOk_endFrame h (by simp [sendingData, *])
    · exact h
  all_goals
    intros
    refine journalOk_of_eq ?_ ?_ ?_ ?_ ‹JournalOk _›
    all_goals simp

/-- Settles O57: entry i of a sound journal is INFLIGHT exactly when i lies before the index of the send point; every
operation moves that index and those states together. -/
theorem journalStaysSound : Obligations.JournalStaysSound := by
  intro s t h hstep
  rw [journalSound_iff] at h ⊢
  exact step_keeps journalOk_kept h hstep

end Sys2Proof.Proofs
end

section
/-! The block and its timers: the step (O1), the commands that complete (O2), the reset values (O3, O51), LINK_ENABLE
(O21) and the timers that change one block (O34). -/

namespace Sys2Proof.Proofs

open Sys2Proof.Machine

/-! ## The step -/

/-- Settles O1: the two cases of the queue. -/
theorem stepTakesFrontCommand : Obligations.StepTakesFrontCommand := by
  intro s c rest
  exact ⟨step_cons (s.setPending (c :: rest)) c rest rfl, step_nil (s.setPending []) rfl⟩

/-! ## Which commands complete -/

/-- A command outside the two stops: it has a next state. -/
abbrev Completes (o : Host.Outcome State Fault Refusal) : Prop := ∃ t, o = .next t

theorem dispatchGood_completes (f : Frame) (handle : State → State) (s : State) :
    Completes (dispatchGood f handle s) ∨ (f.wellFormed = false ∧ dispatchGood f handle s = .refused .illFormed) := by
  unfold dispatchGood
  cases f.wellFormed with
  | true => exact .inl ⟨_, rfl⟩
  | false => exact .inr ⟨rfl, rfl⟩

theorem execUnknownCommand_completes (code : Byte) (s : State) :
    Completes (execUnknownCommand code s) ∨
      ((Instr.unknownCommand code).wellFormed = false ∧ execUnknownCommand code s = .refused .illFormed) := by
  simp only [execUnknownCommand, Instr.wellFormed]
  cases commandOfByte code with
  | none => exact .inl ⟨_, rfl⟩
  | some c => exact .inr ⟨rfl, rfl⟩

/-- A burst's end stops only where it would append to a full journal (R10, R167). -/
theorem execCopyBurstCompletion_completes (s : State) :
    Completes (execCopyBurstCompletion s) ∨
      (s.inReset = false ∧ copyReading s = true ∧ s.journal.freeSlots = 0 ∧
        execCopyBurstCompletion s = .fault .copyEntryWithoutSlot) := by
  unfold execCopyBurstCompletion
  split
  · exact .inl ⟨_, rfl⟩
  · rename_i hrun
    split
    · rename_i w c v _ hreading
      rw [endBurst_eq]
      split
      · exact .inl ⟨_, rfl⟩
      · split
        · rename_i hfull
          exact .inr ⟨by simpa using hrun, by simp [copyReading, hreading], hfull, rfl⟩
        · exact .inl ⟨_, rfl⟩
    · exact .inl ⟨_, rfl⟩

/-- Settles O2: of the rows only UNKNOWN_COMMAND, the four frames and the end of a burst can stop. -/
theorem everyCommandCompletes : Obligations.EveryCommandCompletes := by
  intro c s
  cases c with
  | unknownCommand code => exact (execUnknownCommand_completes code s).imp_right .inl
  | helloReceived f => exact (dispatchGood_completes (.hello f) _ s).imp_right .inl
  | byeReceived r => exact (dispatchGood_completes (.bye r) _ s).imp_right .inl
  | linkReceived f => exact (dispatchGood_completes (.link f) _ s).imp_right .inl
  | dataReceived f => exact (dispatchGood_completes (.data f) _ s).imp_right .inl
  | copyBurstCompletion => exact (execCopyBurstCompletion_completes s).imp_right fun h => .inr ⟨rfl, h⟩
  | _ => exact .inl ⟨_, rfl⟩

/-! ## The reset values -/

/-- Settles O3: the blocks of the reset state, field by field. -/
theorem resetValues : Obligations.ResetValues := by
  unfold Obligations.ResetValues
  refine ⟨rfl, fun i => ?banks, rfl, rfl, rfl, rfl, rfl, fun c => ?counters, ?rest⟩
  case banks => simp [State.reset]
  case counters => simp [State.reset, counterValue]
  case rest => and_intros <;> rfl

/-- Settles O51: the base case of the invariants. The memory is empty and every register is small, so each is
evaluated. -/
theorem soundAtReset : Obligations.SoundAtReset := by
  refine ⟨reset_mem_wf, ?_, ?_, ?_, ?_, ?_, ?_, ?_, ?_, ?_, ?_⟩ <;> decide +kernel

/-! ## LINK_ENABLE -/

/-- A response leaves the part's role and its session as the command's effect left them. -/
@[simp] theorem responded_frame (r : Result) (data : List Byte) (s : State) :
    (responded r data s).part = s.part ∧ (responded r data s).session = s.session := ⟨rfl, rfl⟩

/-- The four answers of LINK_ENABLE in the order of its tests (R112). -/
theorem exec_linkEnable (s : State) (hc : Commanded s) :
    exec .linkEnable s = .next
      (if s.session.state ≠ .off then responded .badState [] s
       else if s.part.role = .detached then responded .badState [] s
       else if s.part.promotionPending = true then responded .busy [] s
       else responded .ok [] (enterSeek (s.setRx { s.rx with framing := .hunt }))) := by
  refine (working_takeCommand_of_commanded .linkEnable [] linkEnableEffect s hc rfl).trans ?_
  unfold linkEnableEffect
  (repeat' split) <;> rfl

/-- Settles O21: on a DETACHED part LINK_ENABLE is refused, so its session stays OFF. -/
theorem linkEnable : Obligations.LinkEnable := by
  intro s hc
  refine ⟨exec_linkEnable s hc, ?_⟩
  intro t hrole ht hdetached
  rw [exec_linkEnable s hc] at ht
  obtain rfl := Host.Outcome.next.inj ht
  obtain ⟨_, _, hoff⟩ := hrole
  by_cases hd : s.part.role = .detached
  · simp [hd, hoff hd]
  · refine absurd ?_ hd
    (repeat' split at hdetached) <;> exact hdetached

/-! ## Timers of one block -/

theorem sealAge_of_running (s : State) (h : s.capture.sealTimer ≠ none) : sealAge s = sealOpen s :=
  if_pos (Option.isSome_iff_ne_none.mpr h)

theorem helloExpiry_of_seek (s : State) (h : s.session.helloTimer ≠ none) (hs : s.session.state = .seek) :
    helloExpiry s = startHelloTimer (askHello s) := by
  simp [helloExpiry, Option.isSome_iff_ne_none, h, hs]

theorem helloExpiry_of_up (s : State) (h : s.session.helloTimer ≠ none) (hs : s.session.state = .up) :
    helloExpiry s = s.setSession { s.session with helloTimer := none } := by
  simp [helloExpiry, Option.isSome_iff_ne_none, h, hs]

theorem statusExpiry_of_running (s : State) (h : s.acker.statusTimer ≠ none) :
    statusExpiry s = s.setAcker { s.acker with
      linkPending := true, statusTimer := some (5 * s.params.statusInterval) } := by
  simp [statusExpiry, Option.isSome_iff_ne_none, h, pendLink]

/-- Settles O34: each expiry runs its handler, which a stopped timer makes the identity. -/
theorem timersExpire : Obligations.TimersExpire := by
  intro s hrun
  have working_eq : ∀ {f : State → State} {t}, f s = t → working f s = .next t := fun h =>
    h ▸ working_of_running _ s hrun
  refine ⟨fun h => working_eq ?_, fun h => working_eq (sealAge_of_running s h), fun h => working_eq ?_,
    fun h hs => working_eq (helloExpiry_of_seek s h hs), fun h hs => working_eq (helloExpiry_of_up s h hs),
    fun h => working_eq ?_, fun h => working_eq (statusExpiry_of_running s h)⟩
  · simp [sealAge, h]
  · simp [helloExpiry, h]
  · simp [statusExpiry, h]

end Sys2Proof.Proofs
end

section
/-! Events and counters as the statements read them (O9), the status record (O8), the register reads (O11). -/

namespace Sys2Proof.Proofs

open Sys2Proof.Machine

/-! ## Flags and counters -/

theorem event_id_inj {e f : Event} : e.id = f.id ↔ e = f := by
  constructor
  · cases e <;> cases f <;> simp [Event.id]
  · exact congrArg _

theorem and_event_bit_bne_zero (x : BitVec 12) (e : Event) : (x &&& e.bit != 0#12) = x.getLsbD e.id := by
  have hzero := and_event_bit_eq_zero x e
  cases h : x.getLsbD e.id <;> simp_all

theorem flagSet_eq_getLsbD (e : Event) (s : State) : flagSet e s = s.events.flags.getLsbD e.id :=
  and_event_bit_bne_zero _ e

theorem repeatSet_eq_getLsbD (e : Event) (s : State) : repeatSet e s = s.events.repeats.getLsbD e.id :=
  and_event_bit_bne_zero _ e

/-- Raising an event sets its flag and no other (R190). -/
theorem flagSet_raise (e f : Event) (s : State) : flagSet f (raise e s) = (flagSet f s || decide (f = e)) := by
  simp only [flagSet_eq_getLsbD, raise, State.setEvents_events, raise_unit_flags, event_id_inj, eq_comm (a := e)]

@[simp] theorem flagSet_raise_same (e : Event) (s : State) : flagSet e (raise e s) = true := by simp [flagSet_raise]

theorem repeatSet_raise (e f : Event) (s : State) :
    repeatSet f (raise e s) = (repeatSet f s || (decide (f = e) && flagSet e s)) := by
  simp only [flagSet_eq_getLsbD, repeatSet_eq_getLsbD, raise, State.setEvents_events, raise_unit_repeats,
    event_id_inj, eq_comm (a := e)]

@[simp] theorem raise_enables (e : Event) (s : State) : (raise e s).events.enables = s.events.enables := by
  simp only [raise, State.setEvents_events, EventUnit.raise]
  split <;> rfl

/-- A flag that stands stays when another event is raised. -/
theorem flagSet_raise_of_set (e : Event) {f : Event} {s : State} (h : flagSet f s = true) :
    flagSet f (raise e s) = true := by
  simp [flagSet_raise, h]

theorem flagSet_of_events {s t : State} (h : t.events = s.events) (e : Event) : flagSet e t = flagSet e s := by
  simp [flagSet, h]

theorem counterValue_of_counters {s t : State} (h : t.counters = s.counters) (c : Counter) :
    counterValue c t = counterValue c s := by
  simp [counterValue, h]

theorem counter_id_inj {c d : Counter} : c.id = d.id ↔ c = d := by
  constructor
  · cases c <;> cases d <;> simp [Counter.id]
  · exact congrArg _

/-- An increment adds one to its own counter, up to 65535, and leaves the others (R193). -/
theorem counterValue_count (c d : Counter) (s : State) :
    counterValue d (count c s) = if d = c then min (counterValue d s + 1) 65535 else counterValue d s := by
  by_cases h : d = c
  · subst h
    simp [counterValue, count, Config.counterMax]
  · have hid : c.id.val ≠ d.id.val := fun heq => h (counter_id_inj.mp (Fin.ext heq)).symm
    simp [counterValue, count, h, hid]

@[simp] theorem counterValue_count_same (c : Counter) (s : State) :
    counterValue c (count c s) = min (counterValue c s + 1) 65535 := by
  simp [counterValue_count]

theorem counterValue_count_other {c d : Counter} (h : d ≠ c) (s : State) :
    counterValue d (count c s) = counterValue d s := by
  simp [counterValue_count, h]

/-! ## The commands of the Event Unit and the counters -/

/-- READ_COUNTER with an id the part has (R193). -/
theorem readCounterEffect_of_counter (c : Counter) (s : State) :
    readCounterEffect [BitVec.ofNat 8 c.id.val] s =
      { state := s, result := .ok, data := be16Bytes (BitVec.ofNat 16 (counterValue c s)) } := by
  cases c <;> rfl

theorem readCounterEffect_of_large (id : Byte) (s : State) (h : 15 ≤ id.toNat) :
    readCounterEffect [id] s = answer .badArg s :=
  dif_neg (Nat.not_lt.mpr h)

/-- Settles O9: one clause per command, the raise and the increment. -/
theorem eventsAndCounters : Obligations.EventsAndCounters := by
  refine ⟨?readEvents, ?clearEvents, ?raised, ?readCounter, ?noCounter, ?clearCounters, ?counted⟩
  case readEvents => exact fun s hc => working_takeCommand_of_commanded .readEvents [] readEventsEffect s hc rfl
  case clearEvents =>
    intro s hi lo hc
    refine ⟨_, working_takeCommand_of_commanded .clearEvents [hi, lo] clearEventsEffect s hc rfl, rfl, ?_⟩
    intro k hk
    simp [EventUnit.clear, argWord, argByte, be16, hk]
  case raised => exact fun s e f => ⟨flagSet_raise e f s, repeatSet_raise e f s, raise_enables e s⟩
  case readCounter =>
    intro s c hc
    refine (working_takeCommand_of_commanded .readCounter _ readCounterEffect s hc rfl).trans ?_
    rw [readCounterEffect_of_counter]
    rfl
  case noCounter =>
    intro s id hc hid
    refine (working_takeCommand_of_commanded .readCounter _ readCounterEffect s hc rfl).trans ?_
    rw [readCounterEffect_of_large id s hid]
    rfl
  case clearCounters =>
    intro s hc
    exact ⟨_, working_takeCommand_of_commanded .clearCounters [] clearCountersEffect s hc rfl, fun i => by simp⟩
  case counted => exact fun s c d => counterValue_count c d s

/-! ## The status record -/

/-- The one COPYING window is the one the status record and the Copy Engine show (R163). -/
theorem copyingWindow_of_only {s : State} {i : WindowId} {c : Nat} (hi : s.copy.states[i] = .copying c)
    (honly : ∀ j : WindowId, s.copy.states[j].isCopying = true → j = i) : copyingWindow s = some (i, c) := by
  cases hw : copyingWindow s with
  | none =>
    have hno := copyingWindow_eq_none.mp hw i
    rw [hi] at hno
    cases hno
  | some p =>
    obtain ⟨j, _, hj⟩ := List.exists_of_findSome?_eq_some hw
    cases hs : s.copy.states[j] with
    | copying d =>
      obtain rfl := honly j (by rw [hs]; rfl)
      have hcd : c = d := CopyState.copying.inj (hi.symm.trans hs)
      simp only [hs, Option.some.injEq] at hj
      rw [← hj, hcd]
    | _ => simp [hs] at hj

/-- The two bytes that show last_applied (R198). -/
def lastAppliedBytes (s : State) : List Byte :=
  match s.applyq.lastApplied with
  | some q => seqBytes q
  | none => [0xFF#8, 0xFF#8]

/-- The byte that names the COPYING window (R198). -/
def copyingByte (s : State) : Byte :=
  match copyingWindow s with
  | some (i, _) => BitVec.ofNat 8 i.val
  | none => 0xFF#8

/-- A cursor field is three bytes. -/
theorem cursorBytes_eq (c : Option (WindowId × Nat)) : ∃ n, cursorBytes c = be24Bytes n := by
  cases c with
  | none => exact ⟨0, rfl⟩
  | some p => exact ⟨p.2, rfl⟩

theorem lastAppliedBytes_eq (s : State) : ∃ a b, lastAppliedBytes s = [a, b] := by
  unfold lastAppliedBytes
  split <;> exact ⟨_, _, rfl⟩

/-- Fields of 9, 10, 4, 4, 2, 5 and 4 bytes are read back at their offsets. -/
theorem fields_at_offsets {a b c d e f g : List Byte} (ha : a.length = 9) (hb : b.length = 10) (hc : c.length = 4)
    (hd : d.length = 4) (he : e.length = 2) (hf : f.length = 5) {r : List Byte}
    (hr : r = a ++ b ++ c ++ d ++ e ++ f ++ g) :
    r.length = 34 + g.length ∧ r.take 9 = a ∧ (r.drop 9).take 10 = b ∧ (r.drop 19).take 4 = c ∧
      (r.drop 23).take 4 = d ∧ (r.drop 27).take 2 = e ∧ (r.drop 29).take 5 = f ∧ r.drop 34 = g := by
  subst hr
  have hlength : 9 + (10 + (4 + (4 + (2 + (5 + g.length))))) = 34 + g.length := by omega
  simp (disch := omega) [List.drop_append, List.drop_of_length_le, ha, hb, hc, hd, he, hf, hlength]

/-- The status record's groups of fields, with those that depend on a choice named: last_applied and the copy
position. -/
theorem statusRecord_eq (s : State) :
    statusRecord s =
      [roleByte s.part.role,
       flagBit s.part.promotionPending 0 ||| flagBit s.part.forced 1 ||| flagBit s.table.commitPending 2 |||
         flagBit s.journal.hasOpen 3 ||| flagBit s.journal.fresh 4 ||| flagBit s.session.seen 5 |||
         flagBit s.copy.syncOwed 6 ||| flagBit (syncedDue s) 7,
       sessionByte s.session.state, lossByte s.session.lastLoss, faultCauseByte s.session.faultCause,
       BitVec.ofNat 8 s.session.rejectRestarts, restartByte s.journal.lastRestart,
       BitVec.ofNat 8 s.journal.entries.length, BitVec.ofNat 8 (64 - s.journal.entries.length)] ++
      (seqBytes s.journal.oldest ++ seqBytes s.journal.sendPoint ++ seqBytes s.journal.nextSeq ++
        be16Bytes s.journal.generation ++ seqBytes s.sender.peerLimit) ++
      [BitVec.ofNat 8 s.sender.retryCount,
       flagBit (isStalled s) 0 ||| flagBit s.hold.holding 1 ||| (BitVec.ofNat 8 (holdOutcomeCode s.hold.last) <<< 2),
       BitVec.ofNat 8 s.applyq.count, applyEngineByte s.applyq.engine] ++
      (seqBytes s.applyq.expected ++ seqBytes s.applyq.limit) ++ lastAppliedBytes s ++
      (be16Bytes s.applyq.streamGeneration ++ be16Bytes s.applyq.dataGeneration ++
        [flagBit s.applyq.consistent 0 ||| flagBit s.applyq.reject 1]) ++
      (copyingByte s :: cursorBytes (copyingWindow s)) := by
  unfold statusRecord lastAppliedBytes copyingByte Journal.count Journal.freeSlots Config.journalSlots
  simp only [List.append_assoc, List.cons_append, List.nil_append] <;> rfl

/-- Settles O8: every group of fields is read off the record at its offset, and the copy position follows the one
COPYING window. -/
theorem statusRecord : Obligations.StatusRecord := by
  intro s hc
  obtain ⟨a, b, hlast⟩ := lastAppliedBytes_eq s
  obtain ⟨n, hcursor⟩ := cursorBytes_eq (copyingWindow s)
  obtain ⟨hlength, hfirst, hsecond, hthird, hfourth, hfifth, hsixth, hlast'⟩ :=
    fields_at_offsets rfl rfl rfl rfl (by rw [hlast]; rfl) rfl (statusRecord_eq s)
  refine ⟨Machine.statusRecord s, hlength.trans (by rw [hcursor]; rfl),
    working_takeCommand_of_commanded .readStatus [] readStatusEffect s hc rfl, hfirst, hsecond, hthird, hfourth,
    fun h => hfifth.trans (by simp [lastAppliedBytes, h]), fun q h => hfifth.trans (by simp [lastAppliedBytes, h]),
    hsixth, ?noCopy, ?copying⟩
  case noCopy =>
    intro hnone
    rw [hlast', copyingByte, copyingWindow_eq_none.mpr hnone]
    rfl
  case copying =>
    intro i c hi honly
    rw [hlast', copyingByte, copyingWindow_of_only hi honly]
    rfl

/-! ## Reads of the registers -/

@[simp] theorem idOfByte_ofNat (i : WindowId) : idOfByte (BitVec.ofNat 8 i.val) = some i := by
  fin_cases i <;> rfl

theorem idOfByte_of_large {b : Byte} (h : 16 ≤ b.toNat) : idOfByte b = none := dif_neg (Nat.not_lt.mpr h)

theorem idOfByte_of_eq {b : Byte} {id : WindowId} (h : b.toNat = id.val) : idOfByte b = some id := by
  simp [idOfByte, h]

@[simp] theorem boolOfByte_boolByte (b : Bool) : boolOfByte (boolByte b) = some b := by cases b <;> rfl

theorem byte_ne_of_lt {b c : Byte} (h : c.toNat < b.toNat) : b ≠ c := fun heq => absurd h (by simp [heq])

theorem boolOfByte_of_large {b : Byte} (h : 2 ≤ b.toNat) : boolOfByte b = none := by
  have h0 : b ≠ 0x00#8 := byte_ne_of_lt (by simp; omega)
  have h1 : b ≠ 0x01#8 := byte_ne_of_lt (by simp; omega)
  simp [boolOfByte, h0, h1]

theorem modeOfByte_of_large {b : Byte} (h : 2 ≤ b.toNat) : modeOfByte b = none := by
  have h0 : b ≠ 0x00#8 := byte_ne_of_lt (by simp; omega)
  have h1 : b ≠ 0x01#8 := byte_ne_of_lt (by simp; omega)
  simp [modeOfByte, h0, h1]

theorem bankOfByte_of_large {b : Byte} (t : WindowTable) (h : 2 ≤ b.toNat) : bankOfByte b t = none := by
  have h0 : b ≠ 0x00#8 := byte_ne_of_lt (by simp; omega)
  have h1 : b ≠ 0x01#8 := byte_ne_of_lt (by simp; omega)
  simp [bankOfByte, h0, h1]

/-- The value of a parameter the part has, and of no other (R189). -/
theorem params_get?_of_lt (p : Params) {id : Nat} (h : id < 9) : ∃ v, p.get? id = some v := by
  interval_cases id <;> exact ⟨_, rfl⟩

theorem params_get?_of_large (p : Params) {id : Nat} (h : 9 ≤ id) : p.get? id = none := by
  unfold Params.get?
  split
  case h_10 => rfl
  all_goals omega

theorem readWindowEffect_eq (i : WindowId) (staged : Bool) (s : State) :
    readWindowEffect [boolByte staged, BitVec.ofNat 8 i.val] s =
      { state := s, result := .ok, data := (if staged then s.table.staged[i] else s.table.active[i]).bytes } := by
  simp only [readWindowEffect, argByte, List.getD_cons_zero, List.getD_cons_succ, idOfByte_ofNat]
  cases staged <;> rfl

theorem readWindowEffect_of_large {b i : Byte} (s : State) (h : 2 ≤ b.toNat ∨ 16 ≤ i.toNat) :
    readWindowEffect [b, i] s = answer .badArg s := by
  simp only [readWindowEffect, argByte, List.getD_cons_zero, List.getD_cons_succ]
  rcases h with h | h
  · rw [bankOfByte_of_large s.table h]
  · rw [idOfByte_of_large h]
    split <;> simp_all

/-- The bytes that show a copy state: its code, and the cursor of a COPYING window (R164). -/
def copyStateBytes : CopyState → List Byte
  | .untracked => 0x00#8 :: be24Bytes 0
  | .pending => 0x01#8 :: be24Bytes 0
  | .copying cursor => 0x02#8 :: be24Bytes cursor
  | .clean => 0x03#8 :: be24Bytes 0

theorem readCopyStateEffect_eq (i : WindowId) (s : State) :
    readCopyStateEffect [BitVec.ofNat 8 i.val] s =
      { state := s, result := .ok, data := copyStateBytes s.copy.states[i] } := by
  simp only [readCopyStateEffect, argByte, List.getD_cons_zero, idOfByte_ofNat]
  cases s.copy.states[i] <;> rfl

/-- Settles O11: the three reads, each with its range. -/
theorem registerReads : Obligations.RegisterReads := by
  intro s hc
  refine ⟨?window, ?noWindow, ?copyState, ?noCopyState, ?noConfig, ?config⟩
  case window =>
    intro i staged
    refine ⟨_, rfl, (working_takeCommand_of_commanded .readWindow _ readWindowEffect s hc rfl).trans ?_⟩
    rw [readWindowEffect_eq]
    rfl
  case noWindow =>
    intro b i h
    refine (working_takeCommand_of_commanded .readWindow _ readWindowEffect s hc rfl).trans ?_
    rw [readWindowEffect_of_large s h]
    rfl
  case copyState =>
    intro i
    refine ⟨_, (working_takeCommand_of_commanded .readCopyState _ readCopyStateEffect s hc rfl).trans
      (congrArg _ (congrArg _ (readCopyStateEffect_eq i s))), ?_, ?_, ?_, ?_⟩
    · exact fun h => by rw [h]; rfl
    · exact fun h => by rw [h]; rfl
    · exact fun h => by rw [h]; rfl
    · exact fun c h => by rw [h]; rfl
  case noCopyState =>
    intro i h
    refine (working_takeCommand_of_commanded .readCopyState _ readCopyStateEffect s hc rfl).trans ?_
    simp only [readCopyStateEffect, argByte, List.getD_cons_zero, idOfByte_of_large h]
    rfl
  case noConfig =>
    intro p h
    refine (working_takeCommand_of_commanded .readConfig _ readConfigEffect s hc rfl).trans ?_
    simp only [readConfigEffect, argByte, List.getD_cons_zero, params_get?_of_large s.params h]
    rfl
  case config =>
    intro p h
    obtain ⟨v, hv⟩ := params_get?_of_lt s.params h
    refine ⟨v, hv, (working_takeCommand_of_commanded .readConfig _ readConfigEffect s hc rfl).trans ?_⟩
    simp only [readConfigEffect, argByte, List.getD_cons_zero, hv]
    rfl

end Sys2Proof.Proofs
end

section
/-! The window table and the parameters: WRITE_STAGED_WINDOW (O12), SET_CONFIG (O16), COMMIT_TABLE (O14), and the
appends that wait for a slot (O15). -/

namespace Sys2Proof.Proofs

open Sys2Proof.Machine

/-- Two states are equal when every block is. -/
theorem state_ext {s t : State} (hinReset : s.inReset = t.inReset) (hmgmt : s.mgmt = t.mgmt)
    (hevents : s.events = t.events) (hcounters : s.counters = t.counters) (hparams : s.params = t.params)
    (htable : s.table = t.table) (hpart : s.part = t.part) (hhost : s.host = t.host) (hport : s.port = t.port)
    (hmem : s.mem = t.mem) (hcapture : s.capture = t.capture) (hhold : s.hold = t.hold)
    (hjournal : s.journal = t.journal) (hcopy : s.copy = t.copy) (hsession : s.session = t.session)
    (htx : s.tx = t.tx) (hrx : s.rx = t.rx) (hsender : s.sender = t.sender) (hacker : s.acker = t.acker)
    (happlyq : s.applyq = t.applyq) (hpending : s.pending = t.pending) : s = t := by
  cases s
  cases t
  simp_all

/-! ## WRITE_STAGED_WINDOW -/

/-- The tests on the argument bytes, byte by byte (R28). -/
theorem stagedArguments_eq (i p bh bl ch cl m : Byte) :
    stagedArguments [i, p, bh, bl, ch, cl, m] =
      match idOfByte i, boolOfByte p, modeOfByte m with
      | some id, some present, some mode =>
        if (bh ++ bl).toNat ≤ 16383 ∧ 1 ≤ (ch ++ cl).toNat ∧ (ch ++ cl).toNat ≤ 16384 then
          some (id, { present := present, basePage := (bh ++ bl).toNat, pageCount := (ch ++ cl).toNat, mode := mode })
        else none
      | _, _, _ => none := by
  have hinRange : ∀ w : Window, w.inRange = decide (w.basePage ≤ 16383 ∧ 1 ≤ w.pageCount ∧ w.pageCount ≤ 16384) :=
    fun w => by simp [Window.inRange, Bool.decide_and, Bool.and_assoc]
  simp only [stagedArguments, hinRange, decide_eq_true_eq]
  rfl

theorem stagedArguments_of_out_of_range {i p bh bl ch cl m : Byte}
    (h : 16 ≤ i.toNat ∨ 2 ≤ p.toNat ∨ 16384 ≤ (bh ++ bl).toNat ∨ (ch ++ cl).toNat = 0 ∨ 16385 ≤ (ch ++ cl).toNat ∨
      2 ≤ m.toNat) : stagedArguments [i, p, bh, bl, ch, cl, m] = none := by
  rw [stagedArguments_eq]
  split
  · rename_i hid hpresent hmode
    refine if_neg fun hrange => ?_
    rcases h with h | h | h | h | h | h
    · simp [idOfByte_of_large h] at hid
    · simp [boolOfByte_of_large h] at hpresent
    · omega
    · omega
    · omega
    · simp [modeOfByte_of_large h] at hmode
  · rfl

@[simp] theorem modeOfByte_modeByte (m : Mode) : modeOfByte (modeByte m) = some m := by cases m <;> rfl

theorem stagedArguments_of_in_range {i bh bl ch cl : Byte} {id : WindowId} {present : Bool} {mode : Mode}
    (hi : i.toNat = id.val) (hbase : (bh ++ bl).toNat ≤ 16383) (hcount : 1 ≤ (ch ++ cl).toNat)
    (hcount' : (ch ++ cl).toNat ≤ 16384) :
    stagedArguments [i, boolByte present, bh, bl, ch, cl, modeByte mode] =
      some (id, { present := present, basePage := (bh ++ bl).toNat, pageCount := (ch ++ cl).toNat, mode := mode }) := by
  simp only [stagedArguments_eq, idOfByte_of_eq hi, boolOfByte_boolByte, modeOfByte_modeByte]
  exact if_pos ⟨hbase, hcount, hcount'⟩

/-- Settles O12: the tests of the effect in their order, and validity by `bankValid_iff`. -/
theorem writeStagedWindow : Obligations.WriteStagedWindow := by
  refine ⟨?_, bankValid_iff⟩
  intro s i p bh bl ch cl m hc
  have hexec := working_takeCommand_of_commanded .writeStagedWindow [i, p, bh, bl, ch, cl, m]
    writeStagedWindowEffect s hc rfl
  refine ⟨fun hpending => hexec.trans ?_, fun hpending h => hexec.trans ?_, fun id mode hpending hi hb hn hn' hm =>
    ⟨fun hp => hexec.trans ?_, fun hp bank hbank => hexec.trans ?_⟩⟩
  · simp only [writeStagedWindowEffect, hpending, if_true]
    rfl
  · simp only [writeStagedWindowEffect, hpending, stagedArguments_of_out_of_range h]
    rfl
  · have hargs := stagedArguments_of_in_range (present := false) (mode := mode) hi hb hn hn'
    subst hm hp
    simp only [writeStagedWindowEffect, hpending]
    rw [show (0x00#8 : Byte) = boolByte false from rfl, hargs]
    rfl
  · have hargs := stagedArguments_of_in_range (present := true) (mode := mode) hi hb hn hn'
    subst hm hp
    simp only [writeStagedWindowEffect, hpending]
    rw [show (0x01#8 : Byte) = boolByte true from rfl, hargs, hbank]
    simp only [Window.normal, Bool.true_and, if_true, Bool.false_eq_true, if_false]
    split <;> simp_all <;> rfl

/-! ## SET_CONFIG -/

/-- The range of each parameter as SET_CONFIG's statement lists them (R189). -/
theorem paramInRange_iff {p : Byte} {v : Nat} (hp : p.toNat < 9) : paramInRange p.toNat v = true ↔
    (p = 0x00#8 → 1 ≤ v ∧ v ≤ 16384) ∧ (p = 0x03#8 → 1 ≤ v ∧ v ≤ 15) ∧ (p = 0x08#8 → v ≤ 255) ∧
      (p ≠ 0x00#8 → p ≠ 0x03#8 → p ≠ 0x08#8 → 1 ≤ v ∧ v ≤ 255) := by
  simp only [← BitVec.toNat_inj, ne_eq, BitVec.toNat_ofNat, Nat.reducePow, Nat.reduceMod]
  generalize p.toNat = id at *
  unfold paramInRange
  split
  case h_4 h0 h3 h8 => simp [show id ≠ 0 from h0, show id ≠ 3 from h3, show id ≠ 8 from h8]
  all_goals simp

/-- Settles O16: the four tests of the effect in their order. -/
theorem setConfig : Obligations.SetConfig := by
  intro s p hi lo hc
  have hexec : exec (.setConfig [p, hi, lo]) s = .next (respond false (setConfigEffect [p, hi, lo] s)) :=
    working_takeCommand_of_commanded .setConfig [p, hi, lo] setConfigEffect s hc rfl
  have hvalue : argWord [p, hi, lo] 1 = hi ++ lo := rfl
  have hid : argByte [p, hi, lo] 0 = p := rfl
  have hzero : p.toNat = 0 ↔ p = 0x00#8 := by simp [← BitVec.toNat_inj]
  simp only [hexec, setConfigEffect, hvalue, hid, hzero]
  refine ⟨fun h => ?_, fun h hrole => ?_, fun h hrole => ⟨fun hrange hfits => ?_, fun hbad => ?_⟩⟩
  · rw [if_pos (by omega)]
    rfl
  · rw [if_neg (by simp [h]), if_pos ⟨h, hrole⟩]
    rfl
  · have hrange' := (paramInRange_iff h).mpr hrange
    rw [if_neg (by omega), if_neg (fun hl => hl.2 (hrole hl.1)), if_neg (by simp [hrange']), if_neg]
    · exact ⟨_, rfl, fun j hj => params_get?_put _ _ _ _ h hj⟩
    · rintro ⟨h0, hunfit⟩
      rw [(bankFits_iff _ _).mpr (hfits h0)] at hunfit
      cases hunfit
  · rw [if_neg (by omega), if_neg (fun hl => hl.2 (hrole hl.1))]
    rw [← paramInRange_iff h] at hbad
    rcases hbad with hbad | ⟨h0, i, hpresent, hlarge⟩
    · rw [if_pos (by simpa using hbad)]
      rfl
    · split
      · rfl
      · rw [if_pos]
        · rfl
        · refine ⟨h0, Bool.eq_false_iff.mpr fun hfits => ?_⟩
          have := (bankFits_iff _ _).mp hfits i hpresent
          omega

/-! ## The SYNCED append and the commit -/

theorem appended_of_append (c : Content) (s : State) : (append c s).journal = appended c s.journal :=
  append_journal c s

/-- Between commands an append stops the seal age timer, the OPEN entry being sealed (R10, R13). -/
@[simp] theorem append_capture (c : Content) (s : State) :
    (append c s).capture = { s.capture with sealTimer := none } := by
  simp [append, sealOpen]

theorem appended_length (c : Content) (j : Journal) : (appended c j).entries.length = j.entries.length + 1 := by
  simp [appended]

theorem freeSlots_pos (j : Journal) : 0 < j.freeSlots ↔ j.entries.length < 64 := Nat.sub_pos_iff_lt

/-- Every present window CLEAN (R170, R171). -/
theorem allClean_iff (b : Bank) (states : Vector CopyState 16) :
    allClean b states = true ↔ ∀ i : WindowId, b[i].present = true → states[i] = .clean := by
  simp only [allClean, List.all_eq_true, mem_windowIds, forall_const, Bool.or_eq_true, Bool.not_eq_true',
    beq_iff_eq, ← Bool.not_eq_true]
  exact forall_congr' fun i => imp_iff_not_or.symm

theorem syncedDue_iff (s : State) : syncedDue s = true ↔ s.copy.syncOwed = true ∧
    ∀ i : WindowId, s.table.active[i].present = true → s.copy.states[i] = .clean := by
  rw [syncedDue, Bool.and_eq_true, allClean_iff]

/-- A SYNCED append that is not due, or finds no slot, changes nothing (R170). -/
theorem offerSynced_of_waiting {s : State} (h : syncedDue s = false ∨ 64 ≤ s.journal.entries.length) :
    offerSynced s = s := by
  have hslots := freeSlots_pos s.journal
  refine if_neg fun hoffer => ?_
  rw [Bool.and_eq_true, decide_eq_true_eq] at hoffer
  rcases h with h | h
  · simp [h] at hoffer
  · omega

/-- A due SYNCED append that finds a slot (R170). -/
theorem offerSynced_of_due {s : State} (hdue : syncedDue s = true) (hslot : s.journal.entries.length < 64) :
    offerSynced s = raise .synced ((append (.synced s.journal.generation) s).setCopy
      { (append (.synced s.journal.generation) s).copy with syncOwed := false }) := by
  have hslots := (freeSlots_pos s.journal).mpr hslot
  exact if_pos (by simp [hdue, hslots])

/-- The journal, the events and the copy unit after a SYNCED append (R170). -/
theorem offerSynced_due_blocks {s : State} (hdue : syncedDue s = true) (hslot : s.journal.entries.length < 64) :
    (offerSynced s).journal = appended (.synced s.journal.generation) s.journal ∧
      (offerSynced s).events = (raise .synced s).events ∧ (offerSynced s).copy.syncOwed = false ∧
      (offerSynced s).capture = { s.capture with sealTimer := none } ∧ flagSet .synced (offerSynced s) = true := by
  rw [offerSynced_of_due hdue hslot]
  refine ⟨?_, ?_, by simp, by simp, by simp⟩
  · simp [appended_of_append]
  · simp [raise]

/-- A flag that stands before the SYNCED append is offered stands after it. -/
theorem flagSet_offerSynced {e : Event} {s : State} (h : flagSet e s = true) : flagSet e (offerSynced s) = true := by
  unfold offerSynced
  dsimp only
  split
  · exact flagSet_raise_of_set _ ((flagSet_of_events (by simp) e).trans h)
  · exact h

/-- The complete flag of a commit's TABLE entry (R35). -/
def commitComplete (s : State) : Bool :=
  allClean s.table.staged (identityRule s.table.active s.table.staged s.copy.states)

/-- A commit up to its offer of the SYNCED append (R35, R171). -/
def commitBegun (s : State) : State :=
  let u := append (.table s.table.staged (commitComplete s)) s
  raise .commitDone ((u.setCopy { u.copy with
      states := identityRule s.table.active s.table.staged s.copy.states
      syncOwed := s.copy.syncOwed || !commitComplete s }).setTable
    { active := s.table.staged, staged := s.table.staged, commitPending := false })

theorem completeCommit_eq (s : State) : completeCommit s = offerSynced (commitBegun s) := by
  simp [completeCommit, commitBegun, commitComplete]

theorem commitBegun_blocks (s : State) :
    (commitBegun s).journal = appended (.table s.table.staged (commitComplete s)) s.journal ∧
      (commitBegun s).copy.syncOwed = (s.copy.syncOwed || !commitComplete s) ∧
      (commitBegun s).capture = { s.capture with sealTimer := none } ∧
      flagSet .commitDone (commitBegun s) = true := by
  simp [commitBegun, appended_of_append]

/-- After a commit a SYNCED append is due exactly when one was owed and the entry was complete (R35, R170). -/
theorem syncedDue_commitBegun (s : State) :
    syncedDue (commitBegun s) = (s.copy.syncOwed && commitComplete s) := by
  have hclean : allClean (commitBegun s).table.active (commitBegun s).copy.states = commitComplete s := by
    simp [commitBegun, commitComplete]
  rw [syncedDue, hclean, (commitBegun_blocks s).2.1]
  cases s.copy.syncOwed <;> cases commitComplete s <;> rfl

theorem flagSet_completeCommit (s : State) : flagSet .commitDone (completeCommit s) = true := by
  rw [completeCommit_eq]
  exact flagSet_offerSynced (commitBegun_blocks s).2.2.2

@[simp] theorem completeCommit_capture (s : State) :
    (completeCommit s).capture = { s.capture with sealTimer := none } := by
  rw [completeCommit_eq]
  unfold offerSynced
  dsimp only
  split <;> simp [commitBegun]

/-- A commit changes the table, the copy unit, the journal, the events and the seal age timer alone. -/
theorem completeCommit_rest (s : State) : completeCommit s =
    { s with table := (completeCommit s).table, copy := (completeCommit s).copy
             journal := (completeCommit s).journal, events := (completeCommit s).events
             capture := (completeCommit s).capture } := by
  apply state_ext <;> simp

/-- Without a second slot, or without both a complete entry and sync owed, the TABLE entry stands alone (R35). -/
theorem completeCommit_alone {s : State}
    (h : commitComplete s = false ∨ s.copy.syncOwed = false ∨ s.journal.entries.length = 63) :
    (completeCommit s).copy.syncOwed = (s.copy.syncOwed || !commitComplete s) ∧
      (completeCommit s).journal = appended (.table s.table.staged (commitComplete s)) s.journal := by
  obtain ⟨hjournal, howed, _, _⟩ := commitBegun_blocks s
  have hwaiting : syncedDue (commitBegun s) = false ∨ 64 ≤ (commitBegun s).journal.entries.length := by
    rw [syncedDue_commitBegun, hjournal, appended_length]
    rcases h with h | h | h
    · simp [h]
    · simp [h]
    · exact .inr (by omega)
  rw [completeCommit_eq, offerSynced_of_waiting hwaiting]
  exact ⟨howed, hjournal⟩

/-- A complete entry with sync owed is followed by the SYNCED entry when a second slot is free (R35, R170). -/
theorem completeCommit_followed {s : State} (hcomplete : commitComplete s = true) (howed : s.copy.syncOwed = true)
    (hslot : s.journal.entries.length < 63) :
    (completeCommit s).copy.syncOwed = false ∧ flagSet .synced (completeCommit s) = true ∧
      (completeCommit s).journal =
        appended (.synced s.journal.generation) (appended (.table s.table.staged true) s.journal) := by
  obtain ⟨hjournal, _, _, _⟩ := commitBegun_blocks s
  have hdue : syncedDue (commitBegun s) = true := by rw [syncedDue_commitBegun, hcomplete, howed]; rfl
  have hslot' : (commitBegun s).journal.entries.length < 64 := by rw [hjournal, appended_length]; omega
  obtain ⟨hj, _, ho, _, hf⟩ := offerSynced_due_blocks hdue hslot'
  rw [completeCommit_eq]
  refine ⟨ho, hf, hj.trans ?_⟩
  rw [hjournal, hcomplete]
  rfl

/-- Settles O15: the two commands run their offers, which the slots of the journal decide. -/
theorem commitAndSyncedComplete : Obligations.CommitAndSyncedComplete := by
  refine ⟨fun s hrun => ⟨fun h => ?noCommit, fun hpending hslot => ?commit⟩,
    fun s hrun => ⟨fun h => ?noSynced, fun howed hclean hslot => ?synced⟩⟩
  case noCommit =>
    refine (working_of_running offerCommit s hrun).trans (congrArg _ (if_neg ?_))
    have hslots := freeSlots_pos s.journal
    rw [Bool.and_eq_true, decide_eq_true_eq]
    rintro ⟨hp, hfree⟩
    rcases h with h | h
    · simp [h] at hp
    · omega
  case commit =>
    have hoffer : offerCommit s = completeCommit s :=
      if_pos (by simp [hpending, (freeSlots_pos s.journal).mpr hslot])
    refine ⟨completeCommit s, (working_of_running offerCommit s hrun).trans (congrArg _ hoffer),
      completeCommit_rest s, completeCommit_table s, flagSet_completeCommit s, completeCommit_capture s, ?_, ?_⟩
    · intro i
      rw [completeCommit_states, identityRule_get]
      rfl
    · intro complete hiff
      rw [completeCommit_states, ← allClean_iff] at hiff
      obtain rfl : complete = commitComplete s := by
        rw [Bool.eq_iff_iff]
        exact hiff
      refine ⟨fun h => completeCommit_alone h, fun ⟨hcomplete, howed, hslot'⟩ => ?_⟩
      exact completeCommit_followed hcomplete howed hslot'
  case noSynced =>
    refine (working_of_running offerSynced s hrun).trans (congrArg _ (offerSynced_of_waiting ?_))
    rw [← Bool.not_eq_true, syncedDue_iff]
    rcases h with h | ⟨i, hpresent, hdirty⟩ | h
    · exact .inl fun hdue => by simp [h] at hdue
    · exact .inl fun hdue => hdirty (hdue.2 i hpresent)
    · exact .inr h
  case synced =>
    have hdue : syncedDue s = true := (syncedDue_iff s).mpr ⟨howed, hclean⟩
    obtain ⟨hj, he, ho, hcap, _⟩ := offerSynced_due_blocks hdue hslot
    refine ⟨offerSynced s, working_of_running offerSynced s hrun, ?_, by simp, ho, hcap, hj⟩
    apply state_ext <;> simp [he]

/-! ## COMMIT_TABLE -/

theorem exec_commitTable (s : State) (hc : Commanded s) :
    exec .commitTable s = .next (respond false (commitTableEffect [] s)) :=
  working_takeCommand_of_commanded .commitTable [] commitTableEffect s hc rfl

/-- On a PRIMARY with a valid staged bank the commit is pending and its append is offered (R34). -/
theorem commitTableEffect_of_primary {s : State} (hrole : s.part.role = .primary)
    (hpending : s.table.commitPending = false) (hvalid : bankValid s.table.staged s.params.memPages = true) :
    commitTableEffect [] s = answer .accepted (offerCommit (s.setTable { s.table with commitPending := true })) := by
  simp [commitTableEffect, hrole, hpending, hvalid]

/-- Settles O14: the tests of the effect in their order; on a PRIMARY the offer of the append completes the commit or
leaves it pending. -/
theorem commitTable : Obligations.CommitTable := by
  intro s hc
  simp only [exec_commitTable s hc]
  refine ⟨fun hrole => ?_, fun hrole hpending => ?_, fun hrole hpending hvalid => ?_, fun hrole hpending hvalid => ?_,
    fun hrole hpending hvalid hfull => ?_, fun hrole hpending hvalid hslot => ?_⟩
  · simp [commitTableEffect, hrole]
  · simp [commitTableEffect, hrole, hpending]
  · simp [commitTableEffect, hrole, hpending, hvalid]
  · simp [commitTableEffect, hrole, hpending, hvalid]
  · rw [commitTableEffect_of_primary hrole hpending hvalid, respond_answer]
    rw [show offerCommit _ = _ from if_neg (by simp [Journal.freeSlots, Config.journalSlots, hfull])]
  · rw [commitTableEffect_of_primary hrole hpending hvalid, respond_answer]
    generalize hu : s.setTable { s.table with commitPending := true } = u
    have hoffer : offerCommit u = completeCommit u :=
      if_pos (by simp [← hu, (freeSlots_pos s.journal).mpr hslot])
    have hrun : u.inReset = false := by rw [← hu]; exact hc.1
    refine ⟨offerCommit u, rfl, working_of_running offerCommit u hrun, ?_, ?_⟩
    · rw [hoffer, completeCommit_table, ← hu]
      rfl
    · rw [hoffer]
      exact flagSet_completeCommit u

end Sys2Proof.Proofs
end

section
/-! What the session's losses and a stream restart leave, in the words of the statements: `LostSession`,
`RestartedStream` and `RestartedSession` hold of `loseSession` and of `restart`. -/

namespace Sys2Proof.Proofs

open Sys2Proof.Machine

/-! ## The abort of a frame and the rewind held behind it -/

theorem heldRewindTaken_spec {m : Seq} {s t : State} (hm : s.journal.heldRewind = some m)
    (ht : t.journal = heldRewindTaken s.journal) : HeldRewindTaken m s t := by
  intro q hq
  rw [ht]
  simp only [heldRewindTaken, hm, ← hq]
  by_cases h : q = s.journal.sendPoint
  · simp [← h]
  · simp only [h, if_false]
    exact ⟨trivial, fun hf => hf.elim, fun _ => rfl⟩

/-- An IDLE transmitter whose last ending is the ABORT of the frame that was in transmission (R93, R109). -/
theorem aborted_of_tx {s t : State} (hrun : t.inReset = false) (hsending : t.tx.sending = none)
    (hending : t.tx.lastEnding = (abortedTx s.tx).lastEnding) : Aborted s t := by
  refine ⟨hsending, fun f hf => ?_⟩
  have hlast : t.tx.lastEnding = .aborted f.bytes := by rw [hending]; simp [abortedTx, hf]
  exact ⟨min f.bytes.length (Config.bytesBeforeAbort t.tx.aborts), Nat.min_le_left _ _,
    by simp [transmitLane, hrun, hsending, hlast, abortedSymbols]⟩

/-! ## A session loss -/

@[simp] theorem loseSession_blocks (r : LossReason) (s : State) :
    (loseSession r s).session = { s.session with
      state := .seek, seen := false, lastLoss := r, helloTimer := some (100 * s.params.helloInterval) } ∧
    (loseSession r s).tx = { abortedTx s.tx with helloDue := true } ∧
    (loseSession r s).rx = { s.rx with silenceTimer := none } ∧
    (loseSession r s).sender = { s.sender with ackTimer := none } ∧
    (loseSession r s).acker = { s.acker with statusTimer := none } ∧
    (loseSession r s).journal = (abortFrame s).journal ∧
    (loseSession r s).events = (raise .linkLost s).events ∧
    (loseSession r s).counters = (count .sessionLosses s).counters := by
  simp [loseSession, enterSeek, startHelloTimer, askHello]

/-- A departure from UP withdraws a waiting burst request and leaves any other state of the Copy Engine (R121). -/
theorem leaveUp_engine (r : LossReason) (s : State) :
    (∀ w c, s.copy.engine = .waiting w c → (leaveUp r s).copy.engine = .idle) ∧
      ((∀ w c, s.copy.engine ≠ .waiting w c) → (leaveUp r s).copy = s.copy) := by
  simp only [leaveUp]
  split
  · rename_i h
    simp only [State.setAcker_copy, State.setSender_copy, State.setRx_copy, abortFrame_frame,
      State.setSession_copy, count_frame, raise_frame] at h
    simp [h]
  · rename_i h
    simp only [State.setAcker_copy, State.setSender_copy, State.setRx_copy, abortFrame_frame,
      State.setSession_copy, count_frame, raise_frame] at h
    exact ⟨fun w c hw => absurd hw (h w c), fun _ => by simp⟩

theorem loseSession_copy (r : LossReason) (s : State) : (loseSession r s).copy = (leaveUp r s).copy := by
  simp [loseSession]

/-- A journal without a held rewind is as before a loss; with one behind a frame it is taken (R17, R109). -/
theorem abortFrame_journal_taken {s : State} (h : s.tx.sending ≠ none) :
    (abortFrame s).journal = heldRewindTaken s.journal := by
  rw [abortFrame_journal, if_neg h]

/-- Every departure from UP to SEEK has the effects its statement lists (R113, R121). -/
theorem lostSession (r : LossReason) {s : State} (hrun : s.inReset = false) : LostSession r s (loseSession r s) := by
  obtain ⟨hwaiting, hnot⟩ := leaveUp_engine r s
  refine ⟨by simp, ⟨by simp, by simp⟩, aborted_of_tx (by simpa using hrun) (by simp) (by simp), by simp, by simp,
    by simp, by simp, by simp, by simp, by simp, fun w c h => ?_, fun h => ?_, fun h => ?_, fun m hsend hm => ?_, ?_⟩
  · rw [loseSession_copy]
    exact hwaiting w c h
  · rw [loseSession_copy, hnot h]
  · simp [abortFrame_journal_of_none s h]
  · exact heldRewindTaken_spec hm (by simp [abortFrame_journal_taken hsend])
  · apply state_ext <;> simp

/-! ## The discard of the journal -/

/-- A discard that finds a held entry abandons the hold and reports it late (R19, R85). -/
theorem discardJournal_of_held {s : State} (h : s.journal.entries.any (fun e => e.held) = true) :
    (discardJournal s).hold = { holding := false, timer := none, last := .abandoned } ∧
      (discardJournal s).events = (raise .syncLate s).events ∧
      (discardJournal s).counters = (count .syncLate s).counters ∧
      (discardJournal s).host = (endHold .abandoned s).host := by
  have hcounters : ∀ u : State, u.counters = s.counters → (count .syncLate u).counters = (count .syncLate s).counters :=
    fun u hu => by simp [count, hu]
  have hhost : ∀ u : State, u.host = s.host → (endHold .abandoned u).host = (endHold .abandoned s).host := by
    intro u hu
    simp only [endHold, completeHeld, State.setHold_host, hu]
    split
    · rfl
    · exact hu
  simp only [discardJournal, h, if_true]
  exact ⟨by simp, by simp [raise], hcounters _ (by simp), by simpa using hhost _ (by simp)⟩

/-- A discard without a held entry leaves the Hold Unit, the host, the events and the counters (R19). -/
theorem discardJournal_of_not_held {s : State} (h : s.journal.entries.any (fun e => e.held) = false) :
    (discardJournal s).hold = s.hold ∧ (discardJournal s).events = s.events ∧
      (discardJournal s).counters = s.counters ∧ (discardJournal s).host = s.host := by
  simp only [discardJournal, h, Bool.false_eq_true, if_false]
  simp

@[simp] theorem discardJournal_capture (s : State) :
    (discardJournal s).capture = { s.capture with sealTimer := none } := by
  simp only [discardJournal]
  split <;> simp

@[simp] theorem discardJournal_enables (s : State) : (discardJournal s).events.enables = s.events.enables := by
  cases h : s.journal.entries.any (fun e => e.held) with
  | true => simp [discardJournal_of_held h]
  | false => simp [discardJournal_of_not_held h]

/-- A discard counts nothing but the hold it abandons. -/
theorem counterValue_discardJournal {c : Counter} (hc : c ≠ .syncLate) (s : State) :
    counterValue c (discardJournal s) = counterValue c s := by
  cases h : s.journal.entries.any (fun e => e.held) with
  | true =>
    rw [counterValue_of_counters (discardJournal_of_held h).2.2.1]
    exact counterValue_count_other hc s
  | false => exact counterValue_of_counters (discardJournal_of_not_held h).2.2.1 c

/-! ## The session at a restart -/

theorem restartSession_of_up {s : State} (h : s.session.state = .up) : restartSession s = loseSession .resync s := by
  simp [restartSession, h]

theorem restartSession_of_seek {s : State} (h : s.session.state = .seek) : restartSession s = enterSeek s := by
  simp [restartSession, h]

theorem restartSession_of_other {s : State} (hup : s.session.state ≠ .up) (hseek : s.session.state ≠ .seek) :
    restartSession s = s := by
  unfold restartSession
  split
  · exact absurd ‹_› hup
  · exact absurd ‹_› hseek
  · rfl

@[simp] theorem enterSeek_blocks (s : State) :
    (enterSeek s).session = { s.session with
      state := .seek, seen := false, helloTimer := some (100 * s.params.helloInterval) } ∧
    (enterSeek s).tx = { s.tx with helloDue := true } := by
  simp [enterSeek, startHelloTimer, askHello]

/-- A restart that acts on the session raises at most LINK_LOST (R127). -/
theorem restartSession_events_cases (s : State) :
    (restartSession s).events = s.events ∨ (restartSession s).events = (raise .linkLost s).events := by
  unfold restartSession
  split
  · exact .inr (by simp)
  · exact .inl (by simp)
  · exact .inl rfl

@[simp] theorem restartSession_enables (s : State) : (restartSession s).events.enables = s.events.enables := by
  obtain h | h := restartSession_events_cases s <;> simp [h]

theorem flagSet_restartSession {e : Event} {s : State} (h : flagSet e s = true) :
    flagSet e (restartSession s) = true := by
  obtain heq | heq := restartSession_events_cases s
  · rwa [flagSet_of_events heq]
  · rw [flagSet_of_events heq]
    exact flagSet_raise_of_set _ h

theorem counterValue_restartSession {c : Counter} (hc : c ≠ .sessionLosses) (s : State) :
    counterValue c (restartSession s) = counterValue c s := by
  unfold restartSession
  split
  · rw [counterValue_of_counters (s := count .sessionLosses s) (by simp), counterValue_count_other hc]
  · exact counterValue_of_counters (by simp) c
  · rfl

theorem counterValue_losses_of_not_up {s : State} (h : s.session.state ≠ .up) :
    counterValue .sessionLosses (restartSession s) = counterValue .sessionLosses s := by
  unfold restartSession
  split
  · exact absurd ‹_› h
  · exact counterValue_of_counters (by simp) _
  · rfl

theorem restartSession_rx (s : State) :
    (restartSession s).rx = { s.rx with silenceTimer := (restartSession s).rx.silenceTimer } := by
  unfold restartSession
  split <;> simp

/-! ## A stream restart -/

/-- A restart before its SYNCED append is offered and its stall ends (R20). -/
def restarted (r : RestartReason) (s : State) : State :=
  count .streamRestarts (raise .streamRestart (restartSession (restartBegun r s)))

theorem restart_eq_restarted (r : RestartReason) (s : State) : restart r s = endStall (offerSynced (restarted r s)) :=
  restart_eq r s

theorem restarted_journal (r : RestartReason) (s : State) : (restarted r s).journal = (restartBegun r s).journal := by
  simp [restarted, restartSession_journal (s := restartBegun r s) (by rw [restartBegun_journal])]

theorem restartStates_get (b : Bank) (i : WindowId) :
    (restartStates b)[i] = if b[i].present then .pending else .untracked := by
  simp [restartStates]

/-- After a restart a SYNCED append is due at once exactly when no window is present (R170, R172). -/
theorem syncedDue_restarted (r : RestartReason) (s : State) :
    syncedDue (restarted r s) = true ↔ ∀ i : WindowId, s.table.active[i].present = false := by
  have hstates : (restarted r s).copy.states = restartStates s.table.active := by simp [restarted]
  have howed : (restarted r s).copy.syncOwed = true := by simp [restarted]
  have htable : (restarted r s).table = s.table := by simp [restarted]
  rw [syncedDue_iff, hstates, howed, htable]
  simp only [restartStates_get, true_and]
  refine forall_congr' fun i => ?_
  cases s.table.active[i].present <;> simp

theorem restarted_slot (r : RestartReason) (s : State) : (restarted r s).journal.entries.length < 64 := by
  simp [restarted_journal, restartBegun_journal]

/-- With a window present the SYNCED append waits for the copies (R172). -/
theorem restart_of_present {r : RestartReason} {s : State} (h : ∃ i : WindowId, s.table.active[i].present = true) :
    (restart r s).journal = (restartBegun r s).journal ∧ (restart r s).copy.syncOwed = true := by
  obtain ⟨i, hi⟩ := h
  have hdue : syncedDue (restarted r s) = false := by
    rw [← Bool.not_eq_true, syncedDue_restarted]
    exact fun hall => absurd (hi.symm.trans (hall i)) (by decide)
  rw [restart_eq_restarted, offerSynced_of_waiting (.inl hdue)]
  simp only [endStall_frame, restarted_journal, true_and]
  simp [restarted]

/-- With no window present the SYNCED entry follows at once (R170, R172). -/
theorem restart_of_absent {r : RestartReason} {s : State} (h : ∀ i : WindowId, s.table.active[i].present = false) :
    (restart r s).journal = appended (.synced (restartGeneration r s)) (restartBegun r s).journal ∧
      (restart r s).copy.syncOwed = false ∧ flagSet .synced (restart r s) = true := by
  obtain ⟨hj, _, ho, _, hf⟩ := offerSynced_due_blocks ((syncedDue_restarted r s).mpr h) (restarted_slot r s)
  have hflag : flagSet .synced (restart r s) = flagSet .synced (offerSynced (restarted r s)) :=
    flagSet_of_events (by simp [restart_eq_restarted]) _
  refine ⟨?_, by simpa [restart_eq_restarted] using ho, hflag.trans hf⟩
  simp only [restart_eq_restarted, endStall_frame, hj, restarted_journal]
  simp [restartBegun_journal]

/-- What a restart raises beyond the discard and the session: STREAM_RESTART and perhaps SYNCED (R20, R170). -/
theorem flagSet_restart {e : Event} {r : RestartReason} {s : State}
    (h : flagSet e (raise .streamRestart (restartSession (restartBegun r s))) = true) :
    flagSet e (restart r s) = true := by
  have hoffer : flagSet e (offerSynced (restarted r s)) = true := flagSet_offerSynced h
  exact (flagSet_of_events (by simp [restart_eq_restarted]) e).trans hoffer

theorem counterValue_restart (c : Counter) (r : RestartReason) (s : State) : counterValue c (restart r s) =
    counterValue c (count .streamRestarts (restartSession (restartBegun r s))) :=
  counterValue_of_counters (by simp [restart_eq_restarted, restarted, count]) c

theorem counterValue_restartBegun {c : Counter} (r : RestartReason) (s : State) :
    counterValue c (restartBegun r s) = counterValue c (discardJournal s) :=
  counterValue_of_counters (by simp) c

@[simp] theorem offerSynced_enables (s : State) : (offerSynced s).events.enables = s.events.enables := by
  simp only [offerSynced]
  split <;> simp

/-- The Link blocks and the Hold Unit after a restart are those the session's part leaves. -/
theorem restart_link (r : RestartReason) (s : State) :
    (restart r s).session = (restartSession (restartBegun r s)).session ∧
      (restart r s).tx = (restartSession (restartBegun r s)).tx ∧
      (restart r s).rx = (restartSession (restartBegun r s)).rx ∧
      (restart r s).sender = (restartSession (restartBegun r s)).sender ∧
      (restart r s).acker = (restartSession (restartBegun r s)).acker ∧
      (restart r s).hold = (discardJournal s).hold ∧
      (restart r s).events.enables = s.events.enables := by
  simp [restart_eq_restarted, restarted]

/-- A write that is not stalled is left where the discard puts it. -/
theorem endStall_host_of_not_stalled {s : State} (h : ∀ w, s.host.state ≠ .stalled w) :
    (endStall s).host = s.host ∧ (endStall s).capture = s.capture := by
  unfold endStall
  split
  · exact absurd ‹_› (h _)
  · exact ⟨rfl, rfl⟩

/-- A stall ends with the write in REQUEST and the stall timer stopped (R73). -/
theorem endStall_of_stalled {s : State} {w : HostWrite} (h : s.host.state = .stalled w) :
    (endStall s).host = { s.host with state := .request (.write w) false false } ∧
      (endStall s).capture = { s.capture with stallTimer := none } := by
  simp [endStall, h]

@[simp] theorem endStall_capture_sealTimer (s : State) : (endStall s).capture.sealTimer = s.capture.sealTimer := by
  unfold endStall
  split <;> rfl

/-- A restart acts on the host as the discard and then the end of the stall (R73, R85). -/
theorem restart_host (r : RestartReason) (s : State) :
    (restart r s).host = (endStall (discardJournal s)).host := by
  have hhost : (offerSynced (restarted r s)).host = (discardJournal s).host := by simp [restarted]
  simp only [restart_eq_restarted, endStall, hhost]
  split
  · simp
  · exact hhost

theorem discardJournal_host_of_not_held {s : State} (h : ∀ w, s.host.state ≠ .held w) :
    (discardJournal s).host = s.host := by
  cases hheld : s.journal.entries.any (fun e => e.held) with
  | true => rw [(discardJournal_of_held hheld).2.2.2, endHold_host_of_not_held _ _ h]
  | false => exact (discardJournal_of_not_held hheld).2.2.2

/-- A stalled write leaves STALLED for REQUEST at a restart, and the stall timer stops (R74, R76). -/
theorem restart_of_stalled {r : RestartReason} {s : State} {w : HostWrite} (h : s.host.state = .stalled w) :
    (restart r s).host = { s.host with state := .request (.write w) false false } ∧
      (restart r s).capture.stallTimer = none := by
  have hdiscard : (discardJournal s).host = s.host := discardJournal_host_of_not_held (by simp [h])
  have hstalled : (offerSynced (restarted r s)).host.state = .stalled w := by simp [restarted, hdiscard, h]
  have hhost := (endStall_of_stalled (s := discardJournal s) (by rw [hdiscard, h])).1
  refine ⟨by rw [restart_host, hhost, hdiscard], ?_⟩
  rw [restart_eq_restarted, (endStall_of_stalled hstalled).2]

/-- A HELD write completes as done when a restart abandons its hold (R82, R85). -/
theorem restart_of_held {r : RestartReason} {s : State} {w : HostWrite}
    (hheld : s.journal.entries.any (fun e => e.held) = true) (h : s.host.state = .held w) :
    (restart r s).host = { state := .idle, completion := some .writeDone } := by
  have hdone : (discardJournal s).host = { state := .idle, completion := some .writeDone } :=
    (discardJournal_of_held hheld).2.2.2.trans (endHold_host_of_held _ s w h)
  rw [restart_host, (endStall_host_of_not_stalled (by simp [hdone])).1, hdone]

@[simp] theorem restart_sealTimer (r : RestartReason) (s : State) : (restart r s).capture.sealTimer = none := by
  have hbegun : (restartBegun r s).capture.sealTimer = none := by simp [restartBegun]
  rw [restart_eq_restarted, endStall_capture_sealTimer]
  unfold offerSynced
  dsimp only
  split <;> simp [restarted, hbegun]

/-- A stream restart leaves what its statement lists (R19, R20, R170, R172). -/
theorem restartedStream (r : RestartReason) (s : State) :
    RestartedStream r (restartGeneration r s) s (restart r s) := by
  obtain ⟨_, _, hrx, _, _, hhold, henables⟩ := restart_link r s
  have hlate : flagSet .syncLate (discardJournal s) = true → flagSet .syncLate (restart r s) = true := fun h =>
    flagSet_restart (flagSet_raise_of_set _ (flagSet_restartSession ((flagSet_of_events (by simp) _).trans h)))
  have hlateCount : counterValue .syncLate (restart r s) = counterValue .syncLate (discardJournal s) := by
    rw [counterValue_restart, counterValue_count_other (by decide), counterValue_restartSession (by decide),
      counterValue_restartBegun]
  have hjournal : (restart r s).journal.generation = restartGeneration r s ∧ (restart r s).journal.lastRestart = r ∧
      (restart r s).journal.sendPoint = s.journal.nextSeq ∧ (restart r s).journal.heldRewind = none ∧
      (restart r s).journal.fresh = true := by
    by_cases hp : ∃ i : WindowId, s.table.active[i].present = true
    · rw [(restart_of_present hp).1, restartBegun_journal]
      simp [Journal.fresh, newEntry]
    · rw [(restart_of_absent (by simpa using hp)).1, restartBegun_journal]
      simp [appended, Journal.fresh, newEntry]
  obtain ⟨hgen, hreason, hsend, hrewind, hfresh⟩ := hjournal
  refine ⟨hgen, hreason, hsend, hrewind, hfresh, fun i => ?states, fun hp => ?present, fun ha => ?absent, ?flag,
    ?counted, restart_sealTimer r s, fun hnot => ?engine, fun hheld => ?held, fun hfree => ?free, by simp, by simp,
    by simp, by simp, by simp, by simp, ?rx, henables⟩
  case states => rw [restart_states, restartStates_get]
  case present =>
    obtain ⟨hj, howed⟩ := restart_of_present (r := r) hp
    refine ⟨howed, ?_, by rw [hj, restartBegun_journal]⟩
    rw [hj, restartBegun_journal]
    simp [BitVec.add_assoc]
  case absent =>
    obtain ⟨hj, howed, hflag⟩ := restart_of_absent (r := r) ha
    refine ⟨howed, hflag, ?_, ?_⟩
    · rw [hj, restartBegun_journal]
      simp [appended, BitVec.add_assoc]
    · rw [hj, restartBegun_journal]
      simp [appended, newEntry, Entry.seal, BitVec.add_assoc]
  case flag => exact flagSet_restart (flagSet_raise_same _ _)
  case counted =>
    rw [counterValue_restart, counterValue_count_same, counterValue_restartSession (by decide),
      counterValue_restartBegun, counterValue_discardJournal (by decide)]
  case engine =>
    obtain heq | ⟨⟨w, c, hw⟩, _⟩ := restart_withdrawn r s
    · exact heq
    · exact absurd hw (hnot w c)
  case held =>
    obtain ⟨hdhold, hevents, hcounters, _⟩ := discardJournal_of_held hheld
    refine ⟨hhold.trans hdhold, hlate ?_, ?_, fun w hw => restart_of_held hheld hw⟩
    · rw [flagSet_of_events hevents, flagSet_raise_same]
    · rw [hlateCount, counterValue_of_counters hcounters, counterValue_count_same]
  case free =>
    obtain ⟨hdhold, _, hcounters, _⟩ := discardJournal_of_not_held hfree
    exact ⟨hhold.trans hdhold, hlateCount.trans (counterValue_of_counters hcounters _)⟩
  case rx =>
    rw [hrx, restartSession_rx]
    simp

/-- A stream restart acts on the session as its statement lists (R121, R127). -/
theorem restartedSession (r : RestartReason) {s : State} (hrun : s.inReset = false) :
    RestartedSession s (restart r s) := by
  obtain ⟨hsession, htx, hrx, hsender, _, _, _⟩ := restart_link r s
  have hstate : (restartBegun r s).session.state = s.session.state := by simp
  refine ⟨fun hup => ?up, fun hseek => ?seek, fun hother => ?other⟩
  case up =>
    have hlose := restartSession_of_up (hstate.trans hup)
    have hlink : flagSet .linkLost (restartSession (restartBegun r s)) = true := by
      rw [hlose, flagSet_of_events (s := raise .linkLost (restartBegun r s)) (by simp), flagSet_raise_same]
    rw [hlose] at hsession htx hrx hsender
    refine ⟨by simp [hsession], by simp [hsession], by simp [hsession],
      aborted_of_tx (by simpa using hrun) (by simp [htx]) (by simp [htx]), by simp [htx], by simp [hrx],
      by simp [hsender], by simp [hsession], flagSet_restart (flagSet_raise_of_set _ hlink), ?_⟩
    rw [counterValue_restart, counterValue_count_other (by decide), hlose,
      counterValue_of_counters (s := count .sessionLosses (restartBegun r s)) (by simp), counterValue_count_same,
      counterValue_restartBegun, counterValue_discardJournal (by decide)]
  case seek =>
    have hseek' := restartSession_of_seek (hstate.trans hseek)
    rw [hseek'] at hsession htx
    refine ⟨by simp [hsession], by simp [hsession], by simp [htx], by simp [hsession], by simp [hsession], ?_⟩
    rw [counterValue_restart, counterValue_count_other (by decide),
      counterValue_losses_of_not_up (by rw [hstate, hseek]; decide), counterValue_restartBegun,
      counterValue_discardJournal (by decide)]
  case other =>
    have hup : s.session.state ≠ .up := by rcases hother with h | h | h <;> rw [h] <;> decide
    have hseek : s.session.state ≠ .seek := by rcases hother with h | h | h <;> rw [h] <;> decide
    rw [restartSession_of_other (by rwa [hstate]) (by rwa [hstate])] at hsession htx
    refine ⟨by simp [hsession], by simp [hsession], by simp [htx], ?_⟩
    rw [counterValue_restart, counterValue_count_other (by decide),
      counterValue_losses_of_not_up (by rwa [hstate]), counterValue_restartBegun,
      counterValue_discardJournal (by decide)]

end Sys2Proof.Proofs
end

section
/-! Roles, promotion and the commands of the session: SET_ROLE (O17, O18, O19), PROMOTE (O20), LINK_DISABLE (O22) and
START_RESYNC (O23). -/

namespace Sys2Proof.Proofs

open Sys2Proof.Machine

/-! ## Roles -/

@[simp] theorem roleOfByte_roleByte (r : Role) : roleOfByte (roleByte r) = some r := by cases r <;> rfl

theorem roleOfByte_of_large {b : Byte} (h : 3 ≤ b.toNat) : roleOfByte b = none := by
  have h0 : b ≠ 0x00#8 := byte_ne_of_lt (by simp; omega)
  have h1 : b ≠ 0x01#8 := byte_ne_of_lt (by simp; omega)
  have h2 : b ≠ 0x02#8 := byte_ne_of_lt (by simp; omega)
  simp [roleOfByte, h0, h1, h2]

@[simp] theorem restart_rejectRestarts (r : RestartReason) (s : State) :
    (restart r s).session.rejectRestarts = s.session.rejectRestarts := by
  rw [(restart_link r s).1]
  unfold restartSession
  split <;> simp

/-- In OFF, CLOSING and FAULT a restart leaves the session and the sender (R127). -/
theorem restart_of_off (r : RestartReason) {s : State} (h : s.session.state = .off) :
    (restart r s).session = s.session ∧ (restart r s).sender = s.sender ∧ (restart r s).acker = s.acker := by
  obtain ⟨hsession, _, _, hsender, hacker, _, _⟩ := restart_link r s
  rw [restartSession_of_other (by simp [h]) (by simp [h])] at hsession hsender hacker
  exact ⟨by simp [hsession], by simp [hsender], by simp [hacker]⟩

@[simp] theorem changeRole_part (r : Role) (s : State) :
    (changeRole r s).part = { s.part with role := r, forced := false } := by
  cases r <;> simp [changeRole, clearRejectRestarts, clearSender]

@[simp] theorem changeRole_rejectRestarts (r : Role) (s : State) :
    (changeRole r s).session.rejectRestarts = 0 := by
  cases r <;> simp [changeRole, clearRejectRestarts, clearSender]

/-! ## SET_ROLE -/

theorem exec_setRole (b : Byte) (s : State) (hc : Commanded s) :
    exec (.setRole [b]) s = .next (respond false (setRoleEffect [b] s)) :=
  working_takeCommand_of_commanded .setRole [b] setRoleEffect s hc rfl

/-- SET_ROLE with a role that exists, by its tests in order (R177). -/
theorem setRoleEffect_of_role (r : Role) (s : State) : setRoleEffect [roleByte r] s =
    if s.session.state ≠ .off then answer .badState s
    else if s.table.commitPending then answer .busy s
    else if s.part.promotionPending then answer .busy s
    else if s.part.role = .secondary ∧ r ≠ .secondary ∧ s.applyq.count ≠ 0 then answer .busy s
    else if s.part.role = .primary ∧ r ≠ .primary ∧ copyReading s = true then answer .busy s
    else if r = s.part.role then answer .ok (clearRejectRestarts s)
    else answer .ok (changeRole r s) := by
  have hrole : argByte [roleByte r] 0 = roleByte r := rfl
  simp only [setRoleEffect, hrole, roleOfByte_roleByte]

/-- What lets SET_ROLE change the role: the session OFF, no commit or promotion pending, the apply queue drained and no
burst in progress (R177). -/
structure RoleFree (s : State) : Prop where
  off : s.session.state = .off
  commit : s.table.commitPending = false
  promotion : s.part.promotionPending = false
  drained : s.part.role = .secondary → s.applyq.count = 0
  burst : s.part.role = .primary → copyReading s = false

/-- SET_ROLE that passes its tests and names another role changes the role (R177). -/
theorem exec_setRole_of_change {r : Role} {s : State} (hc : Commanded s) (h : RoleFree s) (hr : r ≠ s.part.role) :
    exec (.setRole [roleByte r]) s = .next (responded .ok [] (changeRole r s)) := by
  rw [exec_setRole _ s hc, setRoleEffect_of_role, if_neg (not_not_intro h.off), if_neg (by simp [h.commit]),
    if_neg (by simp [h.promotion]), if_neg (fun ⟨hs, _, hn⟩ => hn (h.drained hs)),
    if_neg (fun ⟨hp, _, hb⟩ => by simp [h.burst hp] at hb), if_neg hr, respond_answer]

/-- Settles O17: the tests in the order of `setRoleEffect_of_role`. -/
theorem setRoleTests : Obligations.SetRoleTests := by
  intro s hc
  refine ⟨fun b hb => ?noRole, fun r => ⟨fun hstate => ?badState, fun hoff hbusy => ?busy,
    fun hoff hcommit hpromotion hr => ?same, fun hoff hcommit hpromotion hr hdrained hburst => ?changed⟩⟩
  case noRole =>
    have hnone : roleOfByte (argByte [b] 0) = none := roleOfByte_of_large hb
    rw [exec_setRole _ s hc]
    simp [setRoleEffect, hnone]
  case badState => rw [exec_setRole _ s hc, setRoleEffect_of_role, if_pos hstate, respond_answer]
  case busy =>
    rw [exec_setRole _ s hc, setRoleEffect_of_role, if_neg (not_not_intro hoff)]
    rcases hbusy with h | h | h | h
    · simp [h]
    · simp [h]
    · simp [h]
    · simp [h]
  case same =>
    subst hr
    rw [exec_setRole _ s hc, setRoleEffect_of_role, if_neg (not_not_intro hoff), if_neg (by simp [hcommit]),
      if_neg (by simp [hpromotion]), if_neg (fun ⟨hs, hn, _⟩ => hn hs), if_neg (fun ⟨hs, hn, _⟩ => hn hs), if_pos rfl,
      respond_answer]
    rfl
  case changed =>
    refine ⟨changeRole r s, exec_setRole_of_change hc ⟨hoff, hcommit, hpromotion, hdrained, hburst⟩ hr, ?_, by simp⟩
    simp [hpromotion]

/-! ## Leaving and arriving -/

theorem leaveRole_of_not_primary {s : State} (h : s.part.role ≠ .primary) :
    leaveRole s = s ∨ leaveRole s = leaveSecondary s := by
  unfold leaveRole
  cases hp : s.part.role with
  | detached => exact .inl rfl
  | primary => exact absurd hp h
  | secondary => exact .inr rfl

/-- The leaving effects of PRIMARY, block by block (R24, R41, R76, R85, R145, R178). -/
theorem leavePrimary_blocks (s : State) :
    (leavePrimary s).journal = { s.journal with entries := [], sendPoint := s.journal.nextSeq, heldRewind := none } ∧
    (leavePrimary s).copy = { states := Vector.replicate 16 .untracked, syncOwed := false, engine := .idle } ∧
    (leavePrimary s).sender = { peerLimit := 0#12, retryCount := 0, ackTimer := none } ∧
    (leavePrimary s).capture = { stallTimer := none, sealTimer := none } ∧
    (leavePrimary s).hold = (discardJournal s).hold ∧ (leavePrimary s).events = (discardJournal s).events ∧
    (leavePrimary s).counters = (discardJournal s).counters ∧
    (leavePrimary s).host = (endStall (discardJournal s)).host := by
  simp [leavePrimary, clearSender, discardJournal_journal]

/-- A role change to SECONDARY or DETACHED is the leaving effects, the new role and the arriving effects (R178). -/
theorem changeRole_of_not_primary {r : Role} (hr : r ≠ .primary) (s : State) :
    (changeRole r s).journal = (leaveRole s).journal ∧ (changeRole r s).copy = (leaveRole s).copy ∧
    (changeRole r s).sender = (leaveRole s).sender ∧ (changeRole r s).capture = (leaveRole s).capture ∧
    (changeRole r s).host = (leaveRole s).host ∧ (changeRole r s).hold = (leaveRole s).hold ∧
    (changeRole r s).events = (leaveRole s).events ∧ (changeRole r s).counters = (leaveRole s).counters ∧
    (changeRole r s).session = { s.session with rejectRestarts := 0 } ∧
    (changeRole r s).tx = s.tx ∧ (changeRole r s).rx = s.rx := by
  cases r with
  | primary => exact absurd rfl hr
  | detached => simp [changeRole, clearRejectRestarts]
  | secondary => simp [changeRole, clearRejectRestarts]

/-- A host write after the leaving effects of PRIMARY: stalled it requests the port, held it completes (R76, R85). -/
theorem leavePrimary_host (s : State) :
    (∀ w, s.host.state = .stalled w → (leavePrimary s).host = { s.host with state := .request (.write w) false false }) ∧
      (s.journal.entries.any (fun e => e.held) = true → ∀ w, s.host.state = .held w →
        (leavePrimary s).host = { state := .idle, completion := some .writeDone }) := by
  obtain ⟨_, _, _, _, _, _, _, hhost⟩ := leavePrimary_blocks s
  refine ⟨fun w hw => ?_, fun hheld w hw => ?_⟩
  · have hdiscard : (discardJournal s).host = s.host := discardJournal_host_of_not_held (by simp [hw])
    rw [hhost, (endStall_of_stalled (s := discardJournal s) (by rw [hdiscard, hw])).1, hdiscard]
  · have hdone := (discardJournal_of_held hheld).2.2.2.trans (endHold_host_of_held _ s w hw)
    rw [hhost, (endStall_host_of_not_stalled (by simp [hdone])).1, hdone]

/-- Settles O18: the effects of leaving and of arriving, block by block. -/
theorem roleChanges : Obligations.RoleChanges := by
  intro s r hc hoff hcommit hpromotion hr hprimary hdrained hburst
  obtain ⟨hjournal, hcopy, hsender, hcapture, hhost, hhold, hevents, hcounters, hsession, htx, hrx⟩ :=
    changeRole_of_not_primary hprimary s
  refine ⟨changeRole r s, exec_setRole_of_change hc ⟨hoff, hcommit, hpromotion, hdrained, hburst⟩ hr, ?rest,
    fun hrole => ?leftPrimary, fun hrole => ?leftOther, fun hdetached => ?detached, fun hsecondary => ?secondary,
    fun hrole => ?acker⟩
  case rest => apply state_ext <;> simp [hpromotion, hsession, htx, hrx]
  case leftPrimary =>
    have hleave : leaveRole s = leavePrimary s := by simp [leaveRole, hrole]
    obtain ⟨hj, hcp, hsd, hcap, hh, he, hcnt, _⟩ := leavePrimary_blocks s
    obtain ⟨hstalled, hheldHost⟩ := leavePrimary_host s
    rw [hleave] at hjournal hcopy hsender hcapture hhost hhold hevents hcounters
    rw [hjournal, hcopy, hsender, hcapture, hhost, hhold, hj, hcp, hsd, hcap]
    refine ⟨rfl, fun i => by simp, rfl, rfl, rfl, rfl, hstalled, fun hheld => ?_, fun hfree => ?_⟩
    · obtain ⟨hdh, hde, hdc, _⟩ := discardJournal_of_held hheld
      exact ⟨hh.trans hdh, ⟨hevents.trans (he.trans hde), hcounters.trans (hcnt.trans hdc)⟩, hheldHost hheld⟩
    · obtain ⟨hdh, hde, hdc, _⟩ := discardJournal_of_not_held hfree
      exact ⟨hh.trans hdh, hevents.trans (he.trans hde), hcounters.trans (hcnt.trans hdc)⟩
  case leftOther =>
    rw [hjournal, hcopy, hsender, hcapture, hhost, hhold, hevents, hcounters]
    rcases leaveRole_of_not_primary hrole with h | h <;> simp [h, leaveSecondary]
  case detached => simp [hdetached, changeRole, clearRejectRestarts]
  case secondary => simp [hsecondary, changeRole, clearRejectRestarts, arriveSecondary]
  case acker =>
    cases r with
    | primary => exact absurd rfl hprimary
    | secondary => simp [changeRole, arriveSecondary]
    | detached =>
      have hsec : s.part.role = .secondary := hrole.resolve_right (by decide)
      simp [changeRole, clearRejectRestarts, leaveRole, hsec, leaveSecondary]

/-! ## Becoming PRIMARY -/

theorem maxGeneration_toNat (a b : Gen) : (maxGeneration a b).toNat = max a.toNat b.toNat := by
  unfold maxGeneration
  split <;> omega

theorem nextGeneration_eq (g : Gen) : nextGeneration g =
    if g.toNat = 65535 then 1#16 else BitVec.ofNat 16 (g.toNat + 1) := by
  have htop : g = 65535#16 ↔ g.toNat = 65535 := by simp [← BitVec.toNat_inj]
  simp only [nextGeneration, htop]
  split
  · rfl
  · apply BitVec.eq_of_toNat_eq
    simp

/-- The generation of a new primary lies above its own and its data_generation, skipping 0 (R21). -/
theorem nextGeneration_max (a b : Gen) : nextGeneration (maxGeneration a b) =
    if max a.toNat b.toNat = 65535 then 1#16 else BitVec.ofNat 16 (max a.toNat b.toNat + 1) := by
  rw [nextGeneration_eq, maxGeneration_toNat]

/-- What a restart leaves is still there after one more event has been raised. -/
theorem restartedStream_raise (e : Event) {r : RestartReason} {g : Gen} {s t : State} (h : RestartedStream r g s t) :
    RestartedStream r g s (raise e t) := by
  obtain ⟨hgen, hreason, hsend, hrewind, hfresh, hstates, hpresent, habsent, hflag, hcount, hseal, hengine, hheld, hfree,
    htable, hparams, happlyq, hmgmt, hreset, hpending, hrx, henables⟩ := h
  refine ⟨hgen, hreason, hsend, hrewind, hfresh, hstates, hpresent, fun ha => ?_, flagSet_raise_of_set e hflag, hcount,
    hseal, hengine, fun hh => ?_, hfree, htable, hparams, happlyq, hmgmt, hreset, hpending, hrx,
    (raise_enables e t).trans henables⟩
  · obtain ⟨howed, hsynced, hrest⟩ := habsent ha
    exact ⟨howed, flagSet_raise_of_set e hsynced, hrest⟩
  · obtain ⟨hhold, hlate, hrest⟩ := hheld hh
    exact ⟨hhold, flagSet_raise_of_set e hlate, hrest⟩

/-- The state in which SET_ROLE restarts the stream of a new PRIMARY. -/
def madePrimary (s : State) : State :=
  clearSender (clearRejectRestarts ((leaveRole s).setPart { (leaveRole s).part with role := .primary, forced := false }))

theorem changeRole_primary (s : State) : changeRole .primary s = restart .role (madePrimary s) := rfl

/-- A part that is not PRIMARY has nothing a restart would carry over from its leaving effects (R178). -/
theorem restartedStream_madePrimary {s : State} (h : s.part.role ≠ .primary) :
    RestartedStream .role (nextGeneration (maxGeneration s.journal.generation s.applyq.dataGeneration)) s
      (changeRole .primary s) := by
  have hstream := restartedStream .role (madePrimary s)
  rw [changeRole_primary]
  rcases leaveRole_of_not_primary h with hleave | hleave
  · rw [madePrimary, hleave] at hstream ⊢
    exact hstream
  · rw [madePrimary, hleave] at hstream ⊢
    exact hstream

@[simp] theorem promoted_blocks (s : State) :
    (promoted s).session = { s.session with rejectRestarts := 0 } ∧
    (promoted s).sender = { peerLimit := 0#12, retryCount := 0, ackTimer := none } ∧
    (promoted s).acker = { linkPending := false, nakMark := false, nakArmed := true, statusTimer := none } ∧
    (promoted s).mem = s.mem ∧ (promoted s).applyq = s.applyq := ⟨rfl, rfl, rfl, rfl, rfl⟩

/-- The completion of a promotion restarts the stream with reason PROMOTE (R182). -/
theorem restartedStream_completePromotion (s : State) :
    RestartedStream .promote (nextGeneration (maxGeneration s.journal.generation s.applyq.dataGeneration)) s
      (completePromotion s) := by
  rw [completePromotion_eq]
  exact restartedStream_raise .promoteDone (restartedStream .promote (promoted s))

@[simp] theorem flagSet_completePromotion (s : State) : flagSet .promoteDone (completePromotion s) = true := by
  rw [completePromotion_eq]
  exact flagSet_raise_same _ _

@[simp] theorem completePromotion_lastRestart (s : State) : (completePromotion s).journal.lastRestart = .promote := by
  obtain ⟨_, hreason, _⟩ := restartedStream_completePromotion s
  exact hreason

/-- A promotion completes with the session OFF: the session's and the delivery blocks are reset or kept (R145, R182). -/
theorem completePromotion_of_off {s : State} (h : s.session.state = .off) :
    (completePromotion s).session = { s.session with rejectRestarts := 0 } ∧
      (completePromotion s).sender = { peerLimit := 0#12, retryCount := 0, ackTimer := none } ∧
      (completePromotion s).acker = { linkPending := false, nakMark := false, nakArmed := true, statusTimer := none } ∧
      (completePromotion s).mem = s.mem ∧ (completePromotion s).applyq = s.applyq := by
  obtain ⟨hsession, hsender, hacker⟩ := restart_of_off .promote (s := promoted s) h
  rw [completePromotion_eq]
  simp [hsession, hsender, hacker]

/-- Settles O19: SET_ROLE and PROMOTION_COMPLETION, each a restart of a part whose session is OFF. -/
theorem becomingPrimary : Obligations.BecomingPrimary := by
  intro s g hrun hoff hg
  rw [← nextGeneration_max] at hg
  refine ⟨fun hphase hrole hcommit hpromotion hcount => ?role, fun hpending hcount => ?promotion,
    fun hnot => ?waiting⟩
  case role =>
    have hfree : RoleFree s := ⟨hoff, hcommit, hpromotion, fun _ => hcount, fun hp => absurd hp hrole⟩
    obtain ⟨hsession, hsender, _⟩ := restart_of_off .role (s := madePrimary s) (by
      simpa [madePrimary, clearSender, clearRejectRestarts] using hoff)
    refine ⟨changeRole .primary s, exec_setRole_of_change ⟨hrun, hphase⟩ hfree (Ne.symm hrole), ?_,
      hg ▸ restartedStream_madePrimary hrole, ?_, ?_, by simp, ?_⟩
    · simp [hpromotion]
    · rw [changeRole_primary, hsession]
      simp [madePrimary, clearSender, clearRejectRestarts]
    · rw [changeRole_primary, hsender]
      rfl
    · simp [changeRole_primary, madePrimary, clearSender, clearRejectRestarts]
  case promotion =>
    obtain ⟨hsession, hsender, hacker, hmem, happlyq⟩ := completePromotion_of_off hoff
    exact ⟨completePromotion s,
      (working_of_running endPromotion s hrun).trans (congrArg _ (endPromotion_of_drained s hpending hcount)),
      completePromotion_part s, hg ▸ restartedStream_completePromotion s, flagSet_completePromotion s, hsession, hsender,
      by rw [hacker], by rw [hacker], hmem, happlyq⟩
  case waiting =>
    exact (working_of_running endPromotion s hrun).trans (congrArg _ (endPromotion_of_draining s hnot))

/-! ## PROMOTE -/

/-- PROMOTE with a force argument that exists, by its tests in order (R180). -/
theorem promoteEffect_of_force (force : Bool) (s : State) : promoteEffect [boolByte force] s =
    if s.part.role ≠ .secondary then answer .badState s
    else if s.session.state ≠ .off then answer .badState s
    else if s.part.promotionPending then answer .busy s
    else if s.applyq.consistent = false ∧ force = false then answer .badState s
    else answer .accepted (if s.applyq.count = 0
      then completePromotion (s.setPart { s.part with promotionPending := true })
      else s.setPart { s.part with promotionPending := true }) := by
  have hforce : argByte [boolByte force] 0 = boolByte force := rfl
  simp only [promoteEffect, hforce, boolOfByte_boolByte]
  rfl

/-- Settles O20: the tests in the order of `promoteEffect_of_force`. -/
theorem promote : Obligations.Promote := by
  intro s hc
  have hexec : ∀ b : Byte, exec (.promote [b]) s = .next (respond false (promoteEffect [b] s)) := fun b =>
    working_takeCommand_of_commanded .promote [b] promoteEffect s hc rfl
  simp only [hexec]
  refine ⟨fun b hb => ?_, fun force => ?_⟩
  · have hnone : boolOfByte (argByte [b] 0) = none := boolOfByte_of_large hb
    simp [promoteEffect, hnone]
  · rw [promoteEffect_of_force]
    have hgo : s.applyq.consistent = true ∨ force = true → ¬(s.applyq.consistent = false ∧ force = false) := by
      rintro (h | h) ⟨h1, h2⟩ <;> simp_all
    refine ⟨fun h => ?badState, fun hrole hoff hpending => ?busy, fun hrole hoff hpending hcons hforce => ?inconsistent,
      fun hrole hoff hpending hok hcount => ?waits, fun hrole hoff hpending hok hcount => ?completes⟩
    case badState =>
      split
      · rfl
      · rename_i hrole
        rw [if_pos (h.resolve_left hrole)]
        rfl
    case busy => simp [hrole, hoff, hpending]
    case inconsistent => simp [hrole, hoff, hpending, hcons, hforce]
    case waits =>
      rw [if_neg (by simp [hrole]), if_neg (by simp [hoff]), if_neg (by simp [hpending]), if_neg (hgo hok),
        if_neg hcount, respond_answer]
    case completes =>
      rw [if_neg (by simp [hrole]), if_neg (by simp [hoff]), if_neg (by simp [hpending]), if_neg (hgo hok),
        if_pos hcount, respond_answer]
      generalize hu : s.setPart { s.part with promotionPending := true } = u
      have hrun : u.inReset = false := hu ▸ hc.1
      have hend : endPromotion u = completePromotion u := endPromotion_of_drained u (hu ▸ rfl) (hu ▸ hcount)
      have hcons : u.applyq.consistent = s.applyq.consistent := hu ▸ rfl
      exact ⟨_, rfl, (working_of_running endPromotion u hrun).trans (congrArg _ hend),
        hcons ▸ completePromotion_part u, flagSet_completePromotion _, completePromotion_lastRestart _⟩

/-! ## START_RESYNC -/

/-- Settles O23: on a PRIMARY the command is a stream restart. -/
theorem startResync : Obligations.StartResync := by
  intro s hc
  have hexec : exec .startResync s = .next (respond false (startResyncEffect [] s)) :=
    working_takeCommand_of_commanded .startResync [] startResyncEffect s hc rfl
  rw [hexec]
  refine ⟨fun hrole => ?_, fun hrole => ?_⟩
  · simp [startResyncEffect, hrole]
  · obtain ⟨_, _, _, _, _, _, _, _, _, _, _, _, hheld, _⟩ := restartedStream .command s
    refine ⟨restart .command s, by simp [startResyncEffect, hrole], restartedStream .command s, restartedSession .command hc.1, by simp,
      by simp, by simp, by simp, fun w hw => restart_of_stalled hw, fun h => ?_⟩
    obtain ⟨hhold, hflag, hcount, _⟩ := hheld h
    exact ⟨hhold, hflag, hcount⟩

/-! ## LINK_DISABLE -/

theorem abortedTx_of_idle {x : Transmitter} (h : x.sending = none) : abortedTx x = x := by simp [abortedTx, h]

/-- The frame in transmission is aborted once: a departure from UP leaves none (R109, R121). -/
theorem abortFrame_leaveUp (r : LossReason) (s : State) : abortFrame (leaveUp r s) = leaveUp r s :=
  abortFrame_of_idle _ (by simp)

@[simp] theorem enterClosing_blocks (s : State) :
    (enterClosing s).session = { s.session with state := .closing, helloTimer := none } ∧
    (enterClosing s).tx = { abortedTx s.tx with helloDue := false, byeDue := some .disabled } ∧
    (enterClosing s).journal = (abortFrame s).journal ∧ (enterClosing s).copy = s.copy := by
  simp [enterClosing]

@[simp] theorem enterOff_blocks (s : State) :
    (enterOff s).session = { s.session with state := .off, helloTimer := none } ∧
    (enterOff s).tx = { abortedTx s.tx with helloDue := false, byeDue := none } ∧
    (enterOff s).rx = { s.rx with framing := .hunt, good := [] } ∧
    (enterOff s).journal = (abortFrame s).journal ∧ (enterOff s).copy = s.copy := by
  simp [enterOff]

/-- The state LINK_DISABLE leaves (R124). -/
def linkDisabled (s : State) : State :=
  match s.session.state with
  | .off => s
  | .seek => enterClosing s
  | .up => enterClosing (leaveUp .disabled s)
  | .closing => s
  | .fault => enterOff s

theorem linkDisabled_of_idle {s : State} (h : s.session.state = .off ∨ s.session.state = .closing) :
    linkDisabled s = s := by
  rcases h with h | h <;> simp [linkDisabled, h]

/-- Where LINK_DISABLE acts, the journal is what the abort leaves (R17, R109). -/
theorem linkDisabled_journal (s : State) : (linkDisabled s).journal = s.journal ∨
    (linkDisabled s).journal = (abortFrame s).journal := by
  unfold linkDisabled
  split
  · exact .inl rfl
  · exact .inr (by simp)
  · exact .inr (by simp [abortFrame_leaveUp])
  · exact .inl rfl
  · exact .inr (by simp)

theorem linkDisabled_journal_of_closed {s : State}
    (h : s.session.state = .seek ∨ s.session.state = .up ∨ s.session.state = .fault) :
    (linkDisabled s).journal = (abortFrame s).journal := by
  rcases h with h | h | h <;> simp [linkDisabled, h, abortFrame_leaveUp]

/-- Settles O22: the session's five states. -/
theorem linkDisable : Obligations.LinkDisable := by
  intro s hc
  have hexec : exec .linkDisable s = .next (responded .ok [] (linkDisabled s)) :=
    working_takeCommand_of_commanded .linkDisable [] linkDisableEffect s hc rfl
  refine ⟨linkDisabled s, hexec, ?rest, linkDisabled_of_idle, fun h => ?seek, fun h => ?up, fun h => ?closed,
    fun h => ?fault, fun h => ?kept, fun m h hsend hm => ?taken, ?states⟩
  case rest => unfold linkDisabled; split <;> apply state_ext <;> simp
  case seek => simp [linkDisabled, h]
  case up =>
    have hclosing : linkDisabled s = enterClosing (leaveUp .disabled s) := by simp [linkDisabled, h]
    rw [hclosing]
    exact ⟨by simp, ⟨by simp, by simp⟩, by simp, by simp, by simp⟩
  case closed =>
    have hrun : (linkDisabled s).inReset = false := by rcases h with h | h <;> simpa [linkDisabled, h] using hc.1
    rcases h with h | h
    · exact ⟨aborted_of_tx hrun (by simp [linkDisabled, h]) (by simp [linkDisabled, h]), by simp [linkDisabled, h],
        by simp [linkDisabled, h]⟩
    · exact ⟨aborted_of_tx hrun (by simp [linkDisabled, h]) (by simp [linkDisabled, h, abortedTx_of_idle]),
        by simp [linkDisabled, h], by simp [linkDisabled, h]⟩
  case fault =>
    have hrun : (linkDisabled s).inReset = false := by simpa [linkDisabled, h] using hc.1
    exact ⟨by simp [linkDisabled, h], aborted_of_tx hrun (by simp [linkDisabled, h]) (by simp [linkDisabled, h]),
      by simp [linkDisabled, h], by simp [linkDisabled, h], by simp [linkDisabled, h]⟩
  case kept =>
    obtain heq | heq := linkDisabled_journal s
    · exact heq
    · rw [heq, abortFrame_journal_of_none s h]
  case taken =>
    exact heldRewindTaken_spec hm ((linkDisabled_journal_of_closed h).trans (abortFrame_journal_taken hsend))
  case states => unfold linkDisabled; split <;> simp

end Sys2Proof.Proofs
end

section
/-! The host path: the arbiter where only one request stands, classification, and the host accesses that are not
captured (O24, O25, O26), with the ends of holds and stalls (O32, O33). -/

namespace Sys2Proof.Proofs

open Sys2Proof.Machine

/-! ## Memory -/

theorem wordByte_wordOfBytes (b3 b2 b1 b0 : Byte) :
    wordByte (wordOfBytes b3 b2 b1 b0) 0 = b0 ∧ wordByte (wordOfBytes b3 b2 b1 b0) 1 = b1 ∧
      wordByte (wordOfBytes b3 b2 b1 b0) 2 = b2 ∧ wordByte (wordOfBytes b3 b2 b1 b0) 3 = b3 := by
  refine ⟨?_, ?_, ?_, ?_⟩ <;>
  · apply BitVec.eq_of_getLsbD_eq
    intro i hi
    simp only [wordByte, wordOfBytes, BitVec.truncate_eq_setWidth, BitVec.getLsbD_setWidth, BitVec.getLsbD_ushiftRight,
      BitVec.getLsbD_append, hi, decide_true, Bool.true_and]
    grind

/-- The four bytes of a word of memory (R44). -/
theorem wordByte_word (m : Memory) (a : Nat) {k : Nat} (hk : k < 4) : wordByte (m.word a) k = m.byte a k := by
  obtain ⟨h0, h1, h2, h3⟩ := wordByte_wordOfBytes (m.byte a 3) (m.byte a 2) (m.byte a 1) (m.byte a 0)
  interval_cases k
  · exact h0
  · exact h1
  · exact h2
  · exact h3

theorem readWord_of_fits {m : Memory} {a : Nat} (h : m.fits a = true) : m.readWord a = m.word a := if_pos h

@[simp] theorem afterReads_cells (m : Memory) (addrs : List Nat) : (m.afterReads addrs).cells = m.cells := by
  unfold Memory.afterReads
  split <;> rfl

/-- The cells in canonical form: the condition of `Memory.wf` on the list alone. -/
abbrev CellsSorted (cells : List Host.Cell) : Prop :=
  cells.Pairwise (fun c d => c.1 < d.1) ∧ ∀ c ∈ cells, c.2 ≠ Config.unwrittenByte

/-- One byte of a word write, read back under any key (R44). -/
theorem readCell_writeByteIf (mask : Mask) (data : Word) (a k : Nat) {cells : List Host.Cell} (h : CellsSorted cells)
    (n : Nat) : readCell (writeByteIf mask data a k cells) n =
      if n = 4 * a + k ∧ maskBit mask k = true then wordByte data k else readCell cells n := by
  unfold writeByteIf
  cases hm : maskBit mask k with
  | false => simp
  | true =>
    by_cases hn : n = 4 * a + k
    · subst hn
      simp [readCell_writeCell_same _ _ _ h.1]
    · simp [hn, readCell_writeCell_other _ _ _ _ hn]

/-- A word write replaces the masked bytes of its word and no other (R44). -/
theorem wrote_writeWord {m : Memory} {a : Nat} (w : MaskedWord) (hwf : m.wf) (hfits : m.fits a = true) :
    Wrote m (m.writeWord a w) a w.mask w.data := by
  intro b k hk
  have h1 := writeByteIf_wf w.mask w.data a 0 m.cells hwf
  have h2 := writeByteIf_wf w.mask w.data a 1 _ h1
  have h3 := writeByteIf_wf w.mask w.data a 2 _ h2
  simp only [Memory.byte, Memory.writeWord, hfits, if_true]
  rw [readCell_writeByteIf _ _ _ _ h3, readCell_writeByteIf _ _ _ _ h2, readCell_writeByteIf _ _ _ _ h1,
    readCell_writeByteIf _ _ _ _ hwf]
  have haddr : ∀ j < 4, (4 * b + k = 4 * a + j ↔ b = a ∧ k = j) := by omega
  simp only [haddr 0 (by omega), haddr 1 (by omega), haddr 2 (by omega), haddr 3 (by omega)]
  interval_cases k <;> simp

/-! ## The arbiter where one request stands -/

theorem arbitrate_of_settled {s : State} (h : Settled s) : arbitrate s = s := by
  simp [arbitrate, grantOnce_of_settled h]

theorem arbitrate_of_busy {s : State} (h : s.port.holder ≠ .idle) : arbitrate s = s :=
  arbitrate_of_settled (settled_of_busy h)

/-- With no request of the host an IDLE port goes to the engine that waits, if one does (R46, R47). -/
theorem arbitrate_of_no_host {s : State} (hidle : s.port.holder = .idle) (hhost : hostRequests s = false) :
    arbitrate s = grantEngine s := by
  have honce : grantOnce s = grantEngine s := by
    obtain ⟨hs, heq⟩ | ⟨_, _, heq⟩ | ⟨_, hwaits, _⟩ := grantOnce_cases s
    · obtain ⟨e, hw, _⟩ | ⟨_, w, c, hw, _⟩ | ⟨_, hsame⟩ := grantEngine_cases s
      · exact absurd (hs hidle).2 (by simp [engineRequests, hw])
      · exact absurd (hs hidle).2 (by simp [engineRequests, hw])
      · exact heq.trans hsame.symm
    · exact heq
    · exact absurd (hhost.symm.trans hwaits) Bool.false_ne_true
  have hsettled : Settled (grantOnce s) := settled_grantOnce (.inl hhost)
  rw [arbitrate, grantOnce_of_settled hsettled, grantOnce_of_settled hsettled, honce]

theorem grantEngine_of_none {s : State} (h : engineRequests s = false) : grantEngine s = s := by
  obtain ⟨e, hw, _⟩ | ⟨_, w, c, hw, _⟩ | ⟨_, hsame⟩ := grantEngine_cases s
  · exact absurd h (by simp [engineRequests, hw])
  · exact absurd h (by simp [engineRequests, hw])
  · exact hsame

theorem grantEngine_of_apply {s : State} {e : DataFrame} (h : s.applyq.engine = .waiting e) : grantEngine s =
    (s.setApplyq { s.applyq with engine := .writing e }).setPort { holder := .apply, lastGrant := .engine } := by
  simp [grantEngine, h]

theorem grantEngine_of_copy {s : State} {w : WindowId} {c : Nat} (ha : ∀ e, s.applyq.engine ≠ .waiting e)
    (h : s.copy.engine = .waiting w c) : grantEngine s =
      (s.setCopy { s.copy with engine := .reading w c false }).setPort { holder := .burst, lastGrant := .engine } := by
  obtain ⟨e, hw, _⟩ | ⟨_, w', c', hw, heq⟩ | ⟨hnone, _⟩ := grantEngine_cases s
  · exact absurd hw (ha e)
  · obtain ⟨rfl, rfl⟩ := CopyEngine.waiting.inj (h.symm.trans hw)
    exact heq
  · exact absurd hnone (by simp [engineRequests, h])

/-- With the host's request alone at an IDLE port the host is granted (R46). -/
theorem arbitrate_of_host {s : State} (hidle : s.port.holder = .idle) (hhost : hostRequests s = true)
    (hengine : engineRequests s = false) (hsettled : Settled (grantHost s)) : arbitrate s = grantHost s := by
  have honce : grantOnce s = grantHost s := by simp [grantOnce, hidle, hhost, hengine]
  rw [arbitrate, honce, grantOnce_of_settled hsettled, grantOnce_of_settled hsettled]

/-! ## A host transaction at a free port -/

/-- A transaction at an IDLE host port, before the arbiter decides (R42, R43). -/
def presented (t : HostTxn) (s : State) : State := s.setHost { state := .request t true false, completion := none }

theorem exec_hostTransaction {s : State} (t : HostTxn) (hrun : s.inReset = false) (hidle : s.host.state = .idle) :
    exec (.hostTransaction t) s = .next (arbitrate (presented t s)) := by
  refine (working_of_running (presentTransaction t) s hrun).trans ?_
  simp [presentTransaction, hidle, presented]

theorem exec_hostTransaction_of_not_idle {s : State} (t : HostTxn) (hrun : s.inReset = false)
    (hhost : s.host.state ≠ .idle) : exec (.hostTransaction t) s = .next s := by
  refine (working_of_running (presentTransaction t) s hrun).trans (congrArg _ ?_)
  unfold presentTransaction
  split
  · exact absurd ‹_› hhost
  · rfl

/-- A free port grants a host transaction at once (R46). -/
theorem exec_hostTransaction_of_free {s : State} {t : HostTxn} {u : State} (hfree : HostFree s)
    (hgrant : grantHost (presented t s) = u) (hsettled : Settled u) : exec (.hostTransaction t) s = .next u := by
  obtain ⟨hrun, hhost, hport, hengine⟩ := hfree
  subst hgrant
  rw [exec_hostTransaction t hrun hhost, arbitrate_of_host (s := presented t s) hport rfl hengine hsettled]

/-- A granted write is classified at its grant (R48). -/
theorem grantHost_presented (w : HostWrite) (s : State) :
    grantHost (presented (.write w) s) = grantWrite w (hostGranted (presented (.write w) s)) := rfl

theorem classify_presented (t : HostTxn) (w : HostWrite) (s : State) :
    classify (hostGranted (presented t s)) w = classify s w := rfl

/-- A plain write that a free port grants is at memory under its mask (R51). -/
theorem performWrite_presented (w : HostWrite) (s : State) :
    performWrite w (hostGranted (presented (.write w) s)) =
      writeGranted w (s.mem.writeWord w.addr.toNat { data := w.data, mask := w.mask }) s := rfl

theorem settled_writeGranted (w : HostWrite) (m : Memory) (s : State) : Settled (writeGranted w m s) :=
  settled_of_busy (by simp [writeGranted])

/-! ## Classification -/

theorem covers_iff (s : State) (a : Nat) (i : WindowId) :
    s.table.active[i].covers a = true ↔ FallsIn s a i := by
  rw [Window.covers, Bool.and_eq_true, decide_eq_true_eq]

/-- In a valid bank an address falls in one window at most (R26, R27). -/
theorem fallsIn_unique {s : State} {a : Nat} {i j : WindowId} (hvalid : bankValid s.table.active s.params.memPages = true)
    (hi : FallsIn s a i) (hj : FallsIn s a j) : i = j := by
  by_contra hne
  obtain ⟨_, hdisjoint⟩ := (bankValid_iff _ _).mp hvalid
  obtain ⟨hip, hi1, hi2⟩ := hi
  obtain ⟨hjp, hj1, hj2⟩ := hj
  have hpages := hdisjoint i j hne hip hjp
  simp only [Window.firstWord, Window.endWord, Config.pageWords] at hi1 hi2 hj1 hj2
  omega

theorem windowAt_of_fallsIn {s : State} {a : Nat} {i : WindowId}
    (hvalid : bankValid s.table.active s.params.memPages = true) (hi : FallsIn s a i) :
    windowAt s.table.active a = some i := by
  cases hw : windowAt s.table.active a with
  | none =>
    have hno := List.find?_eq_none.mp hw i (mem_windowIds i)
    exact absurd ((covers_iff s a i).mpr hi) hno
  | some j =>
    have hcovers : s.table.active[j].covers a = true :=
      List.find?_some (p := fun i : WindowId => s.table.active[i].covers a) hw
    have hj := (covers_iff s a j).mp hcovers
    rw [fallsIn_unique hvalid hi hj]

theorem windowAt_of_outside {s : State} {a : Nat} (h : ∀ i : WindowId, ¬FallsIn s a i) :
    windowAt s.table.active a = none :=
  List.find?_eq_none.mpr fun i _ hcovers => h i ((covers_iff s a i).mp hcovers)

/-- A write is plain with mask 0, on a DETACHED part and outside every window (R49, R50). -/
theorem classify_of_unwatched {s : State} {w : HostWrite}
    (h : s.part.role = .detached ∨ w.mask = 0#4 ∨ ∀ i : WindowId, ¬FallsIn s w.addr.toNat i) :
    classify s w = .plain false := by
  unfold classify
  split
  · rfl
  · rename_i hmask
    rcases h with h | h | h
    · rw [h]
    · exact absurd h hmask
    · rw [windowAt_of_outside h]
      cases s.part.role <;> rfl

/-- On a PRIMARY a write where nothing has been copied yet is plain (R49, R51). -/
theorem classify_of_plainAt {s : State} {w : HostWrite} {i : WindowId}
    (hvalid : bankValid s.table.active s.params.memPages = true) (h : PlainAt s w.addr.toNat i) (hmask : w.mask ≠ 0#4) :
    classify s w = .plain (s.table.active[i].mode == .sync) := by
  obtain ⟨hrole, hfalls, hstate⟩ := h
  simp only [classify, hmask, if_false, hrole, windowAt_of_fallsIn hvalid hfalls]
  obtain hp | ⟨c, hc, hle⟩ := hstate
  · rw [hp]
  · rw [hc]
    exact if_neg (by omega)

/-- On a PRIMARY a write where the copy has passed is captured (R49). -/
theorem classify_of_capturedAt {s : State} {w : HostWrite} {i : WindowId}
    (hvalid : bankValid s.table.active s.params.memPages = true) (h : CapturedAt s w.addr.toNat i)
    (hmask : w.mask ≠ 0#4) : classify s w = .captured i := by
  obtain ⟨hrole, hfalls, hstate⟩ := h
  simp only [classify, hmask, if_false, hrole, windowAt_of_fallsIn hvalid hfalls]
  obtain hp | ⟨c, hc, hlt⟩ := hstate
  · rw [hp]
  · rw [hc]
    exact if_pos hlt

/-- On a SECONDARY a write into a window is refused (R54). -/
theorem classify_of_secondary {s : State} {w : HostWrite} {i : WindowId} (hrole : s.part.role = .secondary)
    (hfalls : FallsIn s w.addr.toNat i) (hmask : w.mask ≠ 0#4) : classify s w = .refused := by
  have hsome : windowAt s.table.active w.addr.toNat ≠ none := fun hnone =>
    List.find?_eq_none.mp hnone i (mem_windowIds i) ((covers_iff s _ i).mpr hfalls)
  obtain ⟨j, hj⟩ := Option.ne_none_iff_exists'.mp hsome
  simp only [classify, hmask, if_false, hrole, hj]

/-! ## Plain and refused writes, reads -/

/-- A free port performs a plain write at once, and reports one that a SYNC window should have held (R51, R89). -/
theorem exec_plain_write {s : State} {w : HostWrite} {degraded : Bool} (hfree : HostFree s)
    (hclass : classify s w = .plain degraded) :
    exec (.hostTransaction (.write w)) s =
      .next (if degraded then degrade (writeGranted w (s.mem.writeWord w.addr.toNat { data := w.data, mask := w.mask }) s)
        else writeGranted w (s.mem.writeWord w.addr.toNat { data := w.data, mask := w.mask }) s) := by
  refine exec_hostTransaction_of_free hfree ?_ ?_
  · rw [grantHost_presented, grantWrite, classify_presented, hclass]
    cases degraded <;> rfl
  · cases degraded with
    | true => exact settled_of_busy (by simp [degrade, writeGranted])
    | false => exact settled_writeGranted w _ s

/-- Settles O25: the class decides the grant, and the grant performs the write. -/
theorem plainWritePerformed : Obligations.PlainWritePerformed := by
  intro s w hfree hvalid hwf hfits
  have hwrote := wrote_writeWord { data := w.data, mask := w.mask } hwf hfits
  refine ⟨fun h => ⟨_, exec_plain_write hfree (classify_of_unwatched h), hwrote⟩, fun i hplain hmask => ?_⟩
  have hexec := exec_plain_write hfree (classify_of_plainAt hvalid hplain hmask)
  refine ⟨_, hwrote, fun hmode => ?_, fun hmode => ?_⟩
  · rw [hmode] at hexec
    exact hexec
  · rw [hmode] at hexec
    exact hexec

/-- A read at a free port is granted unclassified (R46, R48). -/
theorem exec_read {s : State} (a : Addr) (hfree : HostFree s) : exec (.hostTransaction (.read a)) s =
    .next ((s.setHost { state := .access (.read a), completion := none }).setPort
      { holder := .hostRead, lastGrant := .host }) :=
  exec_hostTransaction_of_free hfree rfl (settled_of_busy (by simp))

/-- Settles O26: the write is refused at its grant, and the read of its address is not looked at. -/
theorem writeRefused : Obligations.WriteRefused := by
  intro s w i hfree hrole hfalls hmask
  have hclass := classify_of_secondary hrole hfalls hmask
  have ⟨_, _, hport, hengine⟩ := hfree
  refine ⟨_, exec_hostTransaction_of_free hfree (u := count .writesBlocked (raise .writeBlocked
    ((s.setHost { state := .idle, completion := some .writeRefused }).setPort
      { holder := .idle, lastGrant := .host }))) ?_ ?_, rfl, rfl, by simp, exec_read w.addr hfree⟩
  · rw [grantHost_presented, grantWrite, classify_presented, hclass]
    simp only [hostGranted, presented, State.setHost_port, hport]
    rfl
  · exact fun _ => ⟨by simp [hostRequests], by simpa [engineRequests] using hengine⟩

/-! ## The ends of host accesses -/

/-- After a host access the freed port goes to the engine that waits, or is IDLE (R46, R47). -/
theorem grantEngine_after_access {s u : State} (hport : u.port = { s.port with holder := .idle })
    (happly : u.applyq = s.applyq) (hcopy : u.copy = s.copy) :
    (engineRequests s = false → (grantEngine u).port = { s.port with holder := .idle } ∧
      (grantEngine u).applyq = s.applyq ∧ (grantEngine u).copy = s.copy) ∧
    (∀ e, s.applyq.engine = .waiting e → (grantEngine u).port = { holder := .apply, lastGrant := .engine } ∧
      (grantEngine u).applyq = { s.applyq with engine := .writing e } ∧ (grantEngine u).copy = s.copy) ∧
    (∀ i c, s.copy.engine = .waiting i c → (∀ e, s.applyq.engine ≠ .waiting e) →
      (grantEngine u).port = { holder := .burst, lastGrant := .engine } ∧ (grantEngine u).applyq = s.applyq ∧
        (grantEngine u).copy = { s.copy with engine := .reading i c false }) := by
  refine ⟨fun h => ?_, fun e he => ?_, fun i c hc hno => ?_⟩
  · have hnone : engineRequests u = false := by simpa [engineRequests, happly, hcopy] using h
    rw [grantEngine_of_none hnone]
    exact ⟨hport, happly, hcopy⟩
  · rw [grantEngine_of_apply (e := e) (by rw [happly, he])]
    simp [happly, hcopy]
  · rw [grantEngine_of_copy (w := i) (c := c) (by simpa [happly] using hno) (by rw [hcopy, hc])]
    simp [happly, hcopy]

/-- The end of a host read: the port is freed, the data returned, the waiting engine granted (R47). -/
theorem endHostRead_eq {s : State} {a : Addr} (hport : s.port.holder = .hostRead)
    (hhost : s.host.state = .access (.read a)) : endHostRead s =
      grantEngine (finishHost (.readData (s.mem.readWord a.toNat))
        ((freePort s).setMem (s.mem.afterReads [a.toNat]))) := by
  have heq : endHostRead s = arbitrate (finishHost (.readData (s.mem.readWord a.toNat))
      ((freePort s).setMem (s.mem.afterReads [a.toNat]))) := by
    simp only [endHostRead, hport, hhost]
    rfl
  rw [heq, arbitrate_of_no_host (by simp [freePort]) (by simp [hostRequests, finishHost])]

/-- A host write whose access has ended: HELD while its hold runs, done otherwise (R47, R82). -/
def writeEnded (w : HostWrite) (s : State) : State :=
  if s.hold.holding then (freePort s).setHost { s.host with state := .held w } else finishHost .writeDone (freePort s)

theorem endHostWrite_eq {s : State} {w : HostWrite} (hport : s.port.holder = .hostWrite)
    (hhost : s.host.state = .access (.write w)) : endHostWrite s = grantEngine (writeEnded w s) := by
  have heq : endHostWrite s = arbitrate (writeEnded w s) := by
    simp only [endHostWrite, hport, hhost]
    rfl
  rw [heq, arbitrate_of_no_host]
  · unfold writeEnded
    split <;> simp [freePort]
  · unfold writeEnded
    split <;> simp [hostRequests, finishHost]

/-- Settles O24: what the host port takes, and the ends of its two accesses. -/
theorem hostAccesses : Obligations.HostAccesses := by
  refine ⟨fun s t hrun => ⟨exec_hostTransaction_of_not_idle t hrun, fun hidle hbusy => ?waits, fun a hfree => exec_read a hfree⟩,
    fun s hrun => ⟨fun a hport hhost => ?read, fun w hport hhost => ?write⟩⟩
  case waits => rw [exec_hostTransaction t hrun hidle, arbitrate_of_busy (by simpa [presented] using hbusy), presented]
  case read =>
    obtain ⟨hnone, happly, hcopy⟩ := grantEngine_after_access (s := s)
      (u := finishHost (.readData (s.mem.readWord a.toNat)) ((freePort s).setMem (s.mem.afterReads [a.toNat])))
      (by simp [freePort]) (by simp) (by simp)
    rw [← endHostRead_eq hport hhost] at hnone happly hcopy
    refine ⟨endHostRead s, s.mem.readWord a.toNat, working_of_running endHostRead s hrun, ?_, ?_, ?_, ?_, hnone, happly,
      hcopy⟩
    · simp [endHostRead_eq hport hhost, finishHost]
    · rw [endHostRead_eq hport hhost]
      apply state_ext <;> simp
    · simp [endHostRead_eq hport hhost]
    · intro hfits k hk
      rw [readWord_of_fits hfits, wordByte_word _ _ hk]
  case write =>
    have hblocks : (writeEnded w s).port = { s.port with holder := .idle } ∧ (writeEnded w s).applyq = s.applyq ∧
        (writeEnded w s).copy = s.copy := by
      unfold writeEnded
      split <;> simp [freePort]
    obtain ⟨hnone, happly, hcopy⟩ := grantEngine_after_access hblocks.1 hblocks.2.1 hblocks.2.2
    rw [← endHostWrite_eq hport hhost] at hnone happly hcopy
    refine ⟨endHostWrite s, working_of_running endHostWrite s hrun, ?_, fun hh => ?_, fun hh => ?_, hnone, happly, hcopy⟩
    · rw [endHostWrite_eq hport hhost]
      unfold writeEnded
      split <;> apply state_ext <;> simp
    · simp [endHostWrite_eq hport hhost, writeEnded, hh]
    · simp [endHostWrite_eq hport hhost, writeEnded, hh, finishHost, werrActive]

/-! ## The ends of holds and stalls -/

/-- Settles O32: the end of the hold, and the write that was at its access then. -/
theorem holdTimesOut : Obligations.HoldTimesOut := by
  intro s hrun
  refine ⟨fun h => (working_of_running holdExpiry s hrun).trans (by simp [holdExpiry, h]), fun hholding htimer => ?_⟩
  have heq : holdExpiry s = count .syncLate (raise .syncLate (endHold .timeout (s.setJournal { s.journal with
      entries := s.journal.entries.map (fun e => { e with held := false }) }))) :=
    if_pos (Option.isSome_iff_ne_none.mpr htimer)
  generalize hu : s.setJournal { s.journal with
    entries := s.journal.entries.map (fun e => { e with held := false }) } = u at heq
  have hhost : u.host = s.host := hu ▸ rfl
  have hrest : holdExpiry s = { s with
      hold := { holding := false, timer := none, last := .timeout }, journal := u.journal
      events := (raise .syncLate s).events, counters := (count .syncLate s).counters, host := (endHold .timeout u).host } := by
    rw [heq, ← hu]
    apply state_ext <;> simp [raise, count]
  refine ⟨holdExpiry s, working_of_running holdExpiry s hrun, ?_, fun w hw => ?_, fun hno => ?_, fun w hw hport => ?_⟩
  · rw [hrest, ← hu]
    rfl
  · rw [hrest]
    exact endHold_host_of_held _ u w (by rw [hhost, hw])
  · rw [hrest]
    exact (endHold_host_of_not_held _ u (by rw [hhost]; exact hno)).trans hhost
  · have hkept : (holdExpiry s).host = s.host := by
      rw [hrest]
      exact (endHold_host_of_not_held _ u (by simp [hhost, hw])).trans hhost
    have hrun' : (holdExpiry s).inReset = false := by rw [hrest]; exact hrun
    refine ⟨_, working_of_running endHostWrite _ hrun', ?_⟩
    rw [endHostWrite_eq (w := w) (by rw [hrest]; exact hport) (by rw [hkept, hw])]
    have hfree : (holdExpiry s).hold.holding = false := by rw [hrest]
    simp [writeEnded, hfree, finishHost]

/-- A write whose stall has ended meets at the arbiter what a new one meets (R53). -/
theorem exec_representation {s : State} {w : HostWrite} (hrun : s.inReset = false)
    (hhost : s.host = { state := .request (.write w) false false, completion := none }) :
    exec .stalledWriteRepresentation s =
      exec (.hostTransaction (.write w)) (s.setHost { state := .idle, completion := none }) := by
  have hrepresent : represent s = presented (.write w) s := by simp [represent, hhost, presented]
  rw [exec_hostTransaction (s := s.setHost { state := .idle, completion := none }) (.write w) hrun rfl]
  refine (working_of_running (fun s => arbitrate (represent s)) s hrun).trans ?_
  rw [hrepresent]
  rfl

/-- Settles O33: the expiry is a restart, and what follows is a host transaction. -/
theorem stallEnds : Obligations.StallEnds := by
  refine ⟨fun s w hrun htimer hstalled => ?expiry, fun s hrun htimer => ?stopped,
    fun s w hrun hhost => exec_representation hrun hhost,
    fun s w i hrun hhost hport hengine hvalid hrole hfalls hpending hmode hmask hwf hfits => ?plain⟩
  case expiry =>
    have hexpiry : stallExpiry s = restart .stall s := if_pos (Option.isSome_iff_ne_none.mpr htimer)
    obtain ⟨hhost, htimer'⟩ := restart_of_stalled (r := .stall) hstalled
    exact ⟨restart .stall s, (working_of_running stallExpiry s hrun).trans (congrArg _ hexpiry),
      restartedStream .stall s, restartedSession .stall hrun, hhost, htimer', by simp, by simp⟩
  case stopped => exact (working_of_running stallExpiry s hrun).trans (by simp [stallExpiry, htimer])
  case plain =>
    have hfree : HostFree (s.setHost { state := .idle, completion := none }) := ⟨hrun, rfl, hport, hengine⟩
    have hclass : classify (s.setHost { state := .idle, completion := none }) w = .plain false := by
      have hplain := classify_of_plainAt hvalid ⟨hrole, hfalls, .inl hpending⟩ hmask
      rw [hmode] at hplain
      exact hplain
    exact ⟨_, (exec_representation hrun hhost).trans (exec_plain_write hfree hclass),
      wrote_writeWord { data := w.data, mask := w.mask } hwf hfits⟩

end Sys2Proof.Proofs
end

section
/-! Coalescing (R62 to R66): the tests of a captured write against the OPEN entry's runs (O28), and what the runs write
to the secondary's memory before and after (O29). -/

namespace Sys2Proof.Proofs

open Sys2Proof.Machine

/-! ## The first run that meets a test -/

/-- The first run that meets a test, with the runs before and after it. -/
theorem updateFirst_split {p : Run → Bool} (f : Run → Run) {rs : List Run} (h : rs.any p = true) :
    ∃ before r after, rs = before ++ r :: after ∧ p r = true ∧ (∀ q ∈ before, p q = false) ∧
      updateFirst p f rs = before ++ f r :: after := by
  induction rs with
  | nil => simp at h
  | cons q rs ih =>
    cases hq : p q with
    | true => exact ⟨[], q, rs, rfl, hq, by simp, by simp [updateFirst, hq]⟩
    | false =>
      obtain ⟨before, r, after, rfl, hr, hbefore, heq⟩ := ih (by simpa [hq] using h)
      exact ⟨q :: before, r, after, rfl, hr, by simpa [hq] using hbefore, by simp [updateFirst, hq, heq]⟩

theorem updateFirst_of_split {p : Run → Bool} (f : Run → Run) {before after : List Run} {r : Run} (hr : p r = true)
    (hbefore : ∀ q ∈ before, p q = false) : updateFirst p f (before ++ r :: after) = before ++ f r :: after := by
  induction before with
  | nil => simp [updateFirst, hr]
  | cons q before ih =>
    have hq := hbefore q (by simp)
    simp [updateFirst, hq, ih fun q' h' => hbefore q' (by simp [h'])]

theorem contains_iff (r : Run) (a : Nat) : r.contains a = true ↔ r.start ≤ a ∧ a < r.start + r.words.length := by
  rw [Run.contains, decide_eq_true_eq]

theorem endsBefore_iff {r : Run} (id : WindowId) (w : HostWrite) (hr : r.words ≠ []) :
    r.endsBefore id w = true ↔ r.window = id.val ∧ r.start + r.words.length = w.addr.toNat := by
  simp [Run.endsBefore, List.length_pos_iff, hr]

/-- No run contains the address: the first test of R62 fails. -/
theorem no_contains {rs : List Run} {a : Nat}
    (h : ∀ r ∈ rs, ¬(r.start ≤ a ∧ a < r.start + r.words.length)) : rs.any (fun r => r.contains a) = false := by
  rw [List.any_eq_false]
  exact fun r hr => by rw [contains_iff]; exact h r hr

/-- Settles O28: the tests of `coalesce` in their order. -/
theorem coalescingTests : Obligations.CoalescingTests := by
  intro rs id w hwords
  refine ⟨?inside, fun hnone => ⟨?extended, fun hnoEnd => ⟨?added, ?refused⟩⟩⟩
  case inside =>
    rintro ⟨r, hr, hrange⟩
    have hany : rs.any (fun r => r.contains w.addr.toNat) = true :=
      List.any_eq_true.mpr ⟨r, hr, (contains_iff r _).mpr hrange⟩
    obtain ⟨before, q, after, hsplit, _, _, heq⟩ := updateFirst_split (fun r => r.mergeAt w) hany
    refine ⟨_, if_pos hany, ?_⟩
    rw [heq, hsplit]
    simp [Run.mergeAt]
  case extended =>
    intro before after r hsplit hwindow hend hbefore hcount
    have hr : r.endsBefore id w = true := (endsBefore_iff id w (hwords r (by simp [hsplit]))).mpr ⟨hwindow, hend⟩
    have hfirst : ∀ q ∈ before, q.endsBefore id w = false := fun q hq => by
      rw [← Bool.not_eq_true, endsBefore_iff id w (hwords q (by simp [hsplit, hq]))]
      exact hbefore q hq
    have hany : rs.any (fun r => r.endsBefore id w) = true := List.any_eq_true.mpr ⟨r, by simp [hsplit], hr⟩
    rw [coalesce, no_contains hnone, if_neg Bool.false_ne_true, if_pos (by simp [hany, Config.entryWords, hcount]), hsplit,
      updateFirst_of_split _ hr hfirst]
    rfl
  case added =>
    intro hlength hcount
    have hno : rs.any (fun r => r.endsBefore id w) = false := by
      rw [List.any_eq_false]
      exact fun r hr => by rw [endsBefore_iff id w (hwords r hr)]; exact hnoEnd hcount r hr
    rw [coalesce, no_contains hnone, if_neg Bool.false_ne_true, if_neg (by simp [hno]),
      if_pos (by simp [Config.entryRuns, Config.entryWords, hlength, hcount])]
    rfl
  case refused =>
    intro hfull
    have hno : ¬(rs.any (fun r => r.endsBefore id w) && decide (wordCount rs < Config.entryWords)) = true := by
      rw [Bool.and_eq_true, decide_eq_true_eq, List.any_eq_true]
      rintro ⟨⟨r, hr, hend⟩, hcount⟩
      exact hnoEnd hcount r hr ((endsBefore_iff id w (hwords r hr)).mp hend)
    rw [coalesce, no_contains hnone, if_neg Bool.false_ne_true, if_neg hno, if_neg]
    rw [Bool.and_eq_true, decide_eq_true_eq, decide_eq_true_eq, Config.entryRuns, Config.entryWords]
    omega

/-! ## What accesses write -/

/-- The byte a masked word writes in byte k of its word. -/
def writtenByte (w : MaskedWord) (k : Nat) : Option Byte := if maskBit w.mask k then some (wordByte w.data k) else none

/-- The byte that a list of word accesses leaves written in byte k of the word at address a: that of the last one. -/
def lastWritten : List (Nat × MaskedWord) → Nat → Nat → Option Byte
  | [], _, _ => none
  | p :: rest, a, k => (lastWritten rest a k).or (if p.1 = a then writtenByte p.2 k else none)

theorem lastWritten_append (x y : List (Nat × MaskedWord)) (a k : Nat) :
    lastWritten (x ++ y) a k = (lastWritten y a k).or (lastWritten x a k) := by
  induction x with
  | nil => simp [lastWritten]
  | cons p x ih => simp [lastWritten, ih, Option.or_assoc]

@[simp] theorem writeWord_fits (m : Memory) (a b : Nat) (w : MaskedWord) : (m.writeWord a w).fits b = m.fits b := by
  simp [Memory.fits]

theorem writeWord_byte {m : Memory} (a : Nat) (w : MaskedWord) (hwf : m.wf) (b : Nat) {k : Nat} (hk : k < 4) :
    (m.writeWord a w).byte b k =
      if m.fits b then (if a = b then writtenByte w k else none).getD (m.byte b k) else m.byte b k := by
  cases hfits : m.fits a with
  | false =>
    have hsame : m.writeWord a w = m := by simp [Memory.writeWord, hfits]
    rw [hsame]
    by_cases hab : a = b
    · simp [← hab, hfits]
    · simp [hab]
  | true =>
    rw [wrote_writeWord w hwf hfits b k hk]
    by_cases hab : a = b
    · subst hab
      cases hm : maskBit w.mask k <;> simp [writtenByte, hm, hfits]
    · simp [hab, Ne.symm hab]

/-- Memory after word writes in order: where it has the word, the last byte written, or the byte before (R44, R50). -/
theorem writeAll_byte {m : Memory} (accesses : List (Nat × MaskedWord)) (hwf : m.wf) (a : Nat) {k : Nat} (hk : k < 4) :
    (m.writeAll accesses).byte a k =
      if m.fits a then (lastWritten accesses a k).getD (m.byte a k) else m.byte a k := by
  induction accesses generalizing m with
  | nil => simp [Memory.writeAll, lastWritten]
  | cons p rest ih =>
    have hstep := ih (m := m.writeWord p.1 p.2) (m.writeWord_wf _ _ hwf)
    have hcons : m.writeAll (p :: rest) = (m.writeWord p.1 p.2).writeAll rest := rfl
    rw [hcons, hstep, writeWord_fits, writeWord_byte p.1 p.2 hwf a hk]
    cases m.fits a with
    | false => simp
    | true => cases h : lastWritten rest a k <;> simp [lastWritten, h]

/-! ## What runs write -/

/-- The byte a run writes in byte k of the word at address a. -/
def runWritten (r : Run) (a k : Nat) : Option Byte :=
  if r.start ≤ a then (r.words[a - r.start]?).bind (fun w => writtenByte w k) else none

theorem lastWritten_runAccesses (start : Nat) (words : List MaskedWord) (a k : Nat) :
    lastWritten (runAccesses start words) a k =
      if start ≤ a then (words[a - start]?).bind (fun w => writtenByte w k) else none := by
  induction words generalizing start with
  | nil => simp [runAccesses, lastWritten]
  | cons w words ih =>
    simp only [runAccesses, lastWritten, ih]
    rcases Nat.lt_trichotomy start a with hlt | heq | hgt
    · have hindex : a - start = (a - (start + 1)) + 1 := by omega
      simp [hlt.le, Nat.succ_le_of_lt hlt, hlt.ne, hindex]
    · simp [heq]
    · simp [show ¬start ≤ a by omega, show ¬start + 1 ≤ a by omega, show start ≠ a by omega]

/-- The byte that the runs of a WRITE entry leave written. -/
def runsWritten (rs : List Run) (a k : Nat) : Option Byte := lastWritten (Content.write rs).accesses a k

theorem runsWritten_append (x y : List Run) (a k : Nat) :
    runsWritten (x ++ y) a k = (runsWritten y a k).or (runsWritten x a k) := by
  simp [runsWritten, Content.accesses, Content.runs, lastWritten_append]

@[simp] theorem runsWritten_single (r : Run) (a k : Nat) : runsWritten [r] a k = runWritten r a k := by
  simp [runsWritten, Content.accesses, Content.runs, lastWritten_runAccesses, runWritten]

theorem runsWritten_split (before after : List Run) (r : Run) (a k : Nat) :
    runsWritten (before ++ r :: after) a k =
      (runsWritten after a k).or ((runWritten r a k).or (runsWritten before a k)) := by
  rw [← List.singleton_append, runsWritten_append, runsWritten_append, runsWritten_single, Option.or_assoc]

theorem runWritten_of_outside {r : Run} {a : Nat} (h : r.contains a = false) (k : Nat) : runWritten r a k = none := by
  rw [← Bool.not_eq_true, contains_iff] at h
  unfold runWritten
  split
  · rw [List.getElem?_eq_none (by omega)]
    rfl
  · rfl

/-- Runs that do not contain an address write nothing there. -/
theorem runsWritten_of_outside {rs : List Run} {a : Nat} (h : ∀ r ∈ rs, r.contains a = false) (k : Nat) :
    runsWritten rs a k = none := by
  induction rs with
  | nil => rfl
  | cons r rs ih =>
    rw [← List.nil_append (r :: rs), runsWritten_split, ih fun q hq => h q (by simp [hq]),
      runWritten_of_outside (h r (by simp))]
    rfl

/-! ## The three merges -/

theorem wordByte_mergeUnderMask (m : Mask) (new old : Word) {k : Nat} (hk : k < 4) :
    wordByte (mergeUnderMask m new old) k = if maskBit m k then wordByte new k else wordByte old k := by
  unfold mergeUnderMask
  obtain ⟨h0, h1, h2, h3⟩ := wordByte_wordOfBytes
    (if maskBit m 3 then wordByte new 3 else wordByte old 3) (if maskBit m 2 then wordByte new 2 else wordByte old 2)
    (if maskBit m 1 then wordByte new 1 else wordByte old 1) (if maskBit m 0 then wordByte new 0 else wordByte old 0)
  interval_cases k
  · exact h0
  · exact h1
  · exact h2
  · exact h3

/-- A write over a stored word writes its own bytes and leaves the word's (R63). -/
theorem writtenByte_merged (w : HostWrite) (old : MaskedWord) {k : Nat} (hk : k < 4) :
    writtenByte { data := mergeUnderMask w.mask w.data old.data, mask := old.mask ||| w.mask } k =
      if maskBit w.mask k then some (wordByte w.data k) else writtenByte old k := by
  have hor : maskBit (old.mask ||| w.mask) k = (maskBit old.mask k || maskBit w.mask k) := BitVec.getLsbD_or
  simp only [writtenByte, wordByte_mergeUnderMask _ _ _ hk, hor]
  cases maskBit w.mask k <;> simp

theorem writtenByte_stored (w : HostWrite) {k : Nat} (hk : k < 4) :
    writtenByte w.stored k = if maskBit w.mask k then some (wordByte w.data k) else none := by
  simp only [writtenByte, HostWrite.stored, wordByte_mergeUnderMask _ _ _ hk]
  cases maskBit w.mask k <;> simp

/-- What a write adds to what a run writes: its own masked bytes at its address. -/
def overwritten (w : HostWrite) (a k : Nat) (before : Option Byte) : Option Byte :=
  if a = w.addr.toNat ∧ maskBit w.mask k = true then some (wordByte w.data k) else before

theorem runWritten_mergeAt {r : Run} {w : HostWrite} (hr : r.contains w.addr.toNat = true) (a : Nat) {k : Nat}
    (hk : k < 4) : runWritten (r.mergeAt w) a k = overwritten w a k (runWritten r a k) := by
  rw [contains_iff] at hr
  by_cases ha : a = w.addr.toNat
  · subst ha
    have hindex : w.addr.toNat - r.start < r.words.length := by omega
    simp only [runWritten, Run.mergeAt, overwritten, hr.1, if_true, List.getElem?_modify_eq,
      List.getElem?_eq_getElem hindex, Option.map_eq_map, Option.map_some, Option.bind_some, writtenByte_merged w _ hk, true_and]
  · unfold runWritten overwritten
    by_cases hstart : r.start ≤ a
    · have hne : w.addr.toNat - r.start ≠ a - r.start := by omega
      simp [Run.mergeAt, hstart, ha, List.getElem?_modify_ne _ _ hne]
    · simp [Run.mergeAt, hstart, ha]

theorem runWritten_extended {r : Run} {w : HostWrite} (hend : r.start + r.words.length = w.addr.toNat) (a : Nat)
    {k : Nat} (hk : k < 4) :
    runWritten { r with words := r.words ++ [w.stored] } a k = overwritten w a k (runWritten r a k) := by
  have hstored := writtenByte_stored w hk
  unfold runWritten overwritten
  by_cases ha : a = w.addr.toNat
  · subst ha
    have hindex : w.addr.toNat - r.start = r.words.length := by omega
    have hle : r.start ≤ w.addr.toNat := by omega
    simp [hle, hindex, hstored]
  · by_cases hstart : r.start ≤ a
    · rcases Nat.lt_or_ge (a - r.start) r.words.length with hlt | hge
      · simp [hstart, ha, List.getElem?_append_left hlt]
      · have hpast : r.words.length + 1 ≤ a - r.start := by omega
        simp [hstart, ha, List.getElem?_eq_none hge, List.getElem?_eq_none (l := r.words ++ [w.stored])
          (by simpa using hpast)]
    · simp [hstart, ha]

theorem runWritten_toRun (w : HostWrite) (id : WindowId) (a : Nat) {k : Nat} (hk : k < 4) :
    runWritten (w.toRun id) a k = overwritten w a k none := by
  unfold runWritten overwritten
  by_cases ha : a = w.addr.toNat
  · simp [HostWrite.toRun, ha, writtenByte_stored w hk]
  · by_cases hstart : w.addr.toNat ≤ a
    · have hindex : a - w.addr.toNat ≠ 0 := by omega
      simp [HostWrite.toRun, ha, hindex]
    · simp [HostWrite.toRun, ha, hstart]

/-- A changed run among runs that leave the write's address alone changes what all of them write as it does itself. -/
theorem runsWritten_of_changed {before after : List Run} {r r' : Run} {w : HostWrite}
    (hafter : ∀ q ∈ after, q.contains w.addr.toNat = false) (a : Nat) {k : Nat}
    (hr : runWritten r' a k = overwritten w a k (runWritten r a k)) :
    runsWritten (before ++ r' :: after) a k = overwritten w a k (runsWritten (before ++ r :: after) a k) := by
  rw [runsWritten_split, runsWritten_split, hr]
  unfold overwritten
  split
  · rename_i h
    rw [h.1, runsWritten_of_outside hafter]
    rfl
  · rfl

/-- What coalesced runs write is what the runs before them and then the write itself write (R63 to R65). -/
theorem runsWritten_coalesce {rs rs' : List Run} {id : WindowId} {w : HostWrite}
    (hdisjoint : rs.Pairwise (fun q r => q.start + q.words.length ≤ r.start ∨ r.start + r.words.length ≤ q.start))
    (h : coalesce rs id w = some rs') (a : Nat) {k : Nat} (hk : k < 4) :
    runsWritten rs' a k = overwritten w a k (runsWritten rs a k) := by
  unfold coalesce at h
  split at h
  · rename_i hany
    obtain ⟨before, r, after, rfl, hr, _, heq⟩ := updateFirst_split (fun r => r.mergeAt w) hany
    rw [heq] at h
    obtain rfl := Option.some.inj h
    refine runsWritten_of_changed (fun q hq => ?_) a (runWritten_mergeAt hr a hk)
    rw [contains_iff] at hr
    rw [← Bool.not_eq_true, contains_iff]
    have hpair := (List.pairwise_cons.mp (List.pairwise_append.mp hdisjoint).2.1).1 q hq
    omega
  · rename_i hnone
    have hout : ∀ q ∈ rs, q.contains w.addr.toNat = false := by simpa using hnone
    split at h
    · rename_i hend
      rw [Bool.and_eq_true] at hend
      obtain ⟨before, r, after, rfl, hr, _, heq⟩ :=
        updateFirst_split (fun r => { r with words := r.words ++ [w.stored] }) hend.1
      rw [heq] at h
      obtain rfl := Option.some.inj h
      have hr' : r.start + r.words.length = w.addr.toNat := by
        simp only [Run.endsBefore, Bool.and_eq_true, decide_eq_true_eq] at hr
        exact hr.2
      exact runsWritten_of_changed (fun q hq => hout q (by simp [hq])) a (runWritten_extended hr' a hk)
    · split at h
      · obtain rfl := Option.some.inj h
        rw [runsWritten_append, runsWritten_single, runWritten_toRun w id a hk]
        unfold overwritten
        split <;> rfl
      · cases h

/-- Settles O29: byte by byte, by what the runs write. -/
theorem coalescingKeepsMemory : Obligations.CoalescingKeepsMemory := by
  intro m rs rs' id w hwf hdisjoint _ hfits hcoalesce a k hk
  have hwritten : lastWritten (Content.write rs').accesses a k =
      overwritten w a k (lastWritten (Content.write rs).accesses a k) := runsWritten_coalesce hdisjoint hcoalesce a hk
  rw [writeAll_byte _ hwf a hk, writeAll_byte _ hwf a hk, hwritten]
  unfold overwritten
  by_cases h : a = w.addr.toNat ∧ maskBit w.mask k = true
  · rw [if_pos h, if_pos h, h.1, hfits]
    rfl
  · rw [if_neg h, if_neg h]

end Sys2Proof.Proofs
end

section
/-! Captured writes at a free port: merged or opened (O27), sealed and held in a SYNC
window (O31). -/

namespace Sys2Proof.Proofs

open Sys2Proof.Machine

/-! ## The three outcomes of a capture -/

theorem captureWrite_of_merged {w : HostWrite} {i : WindowId} {m : Mode} {s : State} {rs rs' : List Run}
    (hruns : s.journal.openRuns = some rs) (hmerge : coalesce rs i w = some rs') :
    captureWrite w i m s = afterCapture w m (mergedInto rs' s) := by
  simp only [captureWrite, hruns, hmerge]
  rfl

/-- A captured write that no test of R62 takes needs a new entry. -/
abbrev NeedsEntry (w : HostWrite) (i : WindowId) (j : Journal) : Prop :=
  j.openRuns = none ∨ ∃ rs, j.openRuns = some rs ∧ coalesce rs i w = none

theorem captureWrite_of_needsEntry {w : HostWrite} {i : WindowId} {m : Mode} {s : State}
    (h : NeedsEntry w i s.journal) : captureWrite w i m s = openOrStall w i m (sealedForCapture s) := by
  rcases h with h | ⟨rs, hruns, hno⟩
  · simp [captureWrite, sealedForCapture, h]
  · simp [captureWrite, sealedForCapture, hruns, hno]

theorem sealedForCapture_cases (s : State) :
    (s.journal.openRuns = none ∧ sealedForCapture s = s) ∨
      (s.journal.openRuns ≠ none ∧ sealedForCapture s = sealOpen s) := by
  unfold sealedForCapture
  cases h : s.journal.openRuns <;> simp

theorem sealedForCapture_entries (s : State) : (sealedForCapture s).journal =
    { s.journal with
      entries := if s.journal.openRuns = none then s.journal.entries else s.journal.entries.map Entry.seal } := by
  obtain ⟨h, heq⟩ | ⟨h, heq⟩ := sealedForCapture_cases s
  · rw [heq, if_pos h]
  · rw [heq, if_neg h, sealOpen_journal]

@[simp] theorem seal_seal (e : Entry) : e.seal.seal = e.seal := by
  unfold Entry.seal
  split <;> simp_all

/-- What is OPEN is READY after the seal, sealed before or not. -/
theorem sealedForCapture_map_seal (s : State) :
    (sealedForCapture s).journal.entries.map Entry.seal = s.journal.entries.map Entry.seal := by
  rw [sealedForCapture_entries]
  dsimp only
  split <;> simp

theorem withdrawCopy_of_not_waiting {s : State} (h : ∀ w c, s.copy.engine ≠ .waiting w c) : withdrawCopy s = s := by
  unfold withdrawCopy
  split
  · exact absurd ‹_› (h _ _)
  · rfl

theorem no_request_of_engineRequests {s : State} (h : engineRequests s = false) :
    (∀ e, s.applyq.engine ≠ .waiting e) ∧ ∀ w c, s.copy.engine ≠ .waiting w c := by
  refine ⟨fun e he => ?_, fun w c hc => ?_⟩
  · simp [engineRequests, he] at h
  · simp [engineRequests, hc] at h

/-! ## A captured write at a free port -/

/-- The state in which a free port has been granted to a write (R46). -/
abbrev atGrant (w : HostWrite) (s : State) : State := hostGranted (presented (.write w) s)

/-- A captured write at a free port is taken by the Capture Unit (R62). -/
theorem exec_captured {s : State} {w : HostWrite} {i : WindowId} {u : State} (hfree : HostFree s)
    (hclass : classify s w = .captured i)
    (hcapture : captureWrite w i s.table.active[i].mode (atGrant w s) = u) (hsettled : Settled u) :
    exec (.hostTransaction (.write w)) s = .next u := by
  refine exec_hostTransaction_of_free hfree ?_ hsettled
  rw [grantHost_presented, grantWrite, classify_presented, hclass]
  exact hcapture

theorem settled_afterCapture (w : HostWrite) (m : Mode) (s : State) : Settled (afterCapture w m s) :=
  settled_of_busy (by simp)

/-- With no burst request waiting an open changes the journal and the seal age timer alone (R9, R14). -/
theorem openEntry_of_not_waiting {r : Run} {s : State} (h : ∀ w c, s.copy.engine ≠ .waiting w c) :
    openEntry r s = (pushEntry (.write [r]) .opened s).setCapture { s.capture with sealTimer := some s.params.sealAge } :=
  withdrawCopy_of_not_waiting h

/-- Settles O27: the merge, and the open of a new entry. -/
theorem captureIntoJournal : Obligations.CaptureIntoJournal := by
  intro s w i hfree hvalid hcaptured hmask hmode hwf hfits
  have hclass := classify_of_capturedAt hvalid hcaptured hmask
  have hwrote := wrote_writeWord { data := w.data, mask := w.mask } hwf hfits
  refine ⟨_, hwrote, fun rs rs' hruns hmerge => ?merged, fun hslot hneeds => ?opened⟩
  case merged =>
    refine exec_captured hfree hclass ?_ (settled_of_busy (by simp [writeGranted]))
    rw [hmode, captureWrite_of_merged (s := atGrant w s) hruns hmerge, ← mapNewest_eq]
    rfl
  case opened =>
    have ⟨_, _, _, hengine⟩ := hfree
    have hwait := (no_request_of_engineRequests hengine).2
    refine ⟨_, exec_captured hfree hclass ?_ (settled_of_busy (by simp [writeGranted])), rfl⟩
    have hfreeSlot : 0 < (sealedForCapture (atGrant w s)).journal.freeSlots := by
      rw [freeSlots_pos, sealedForCapture_entries]
      dsimp only
      split <;> simpa [presented] using hslot
    rw [hmode, captureWrite_of_needsEntry (s := atGrant w s) hneeds, openOrStall, if_pos hfreeSlot,
      openEntry_of_not_waiting (by simpa [presented] using hwait)]
    obtain ⟨hnone, heq⟩ | ⟨hsome, heq⟩ := sealedForCapture_cases (atGrant w s)
    · rw [heq, if_pos (show s.journal.openRuns = none from hnone)]
      rfl
    · rw [heq, if_neg (show s.journal.openRuns ≠ none from hsome)]
      rfl

/-! ## A captured write in a SYNC window -/

/-- A captured SYNC write in UP is at memory, its entry sealed and held (R68, R81). -/
theorem afterCapture_sync_of_up {w : HostWrite} {s : State} (h : s.session.state = .up) :
    afterCapture w .sync s = takeHold (sealOpen (performWrite w s)) := by
  simp [afterCapture, h]

/-- In any other session state it is reported degraded (R89). -/
theorem afterCapture_sync_of_not_up {w : HostWrite} {s : State} (h : s.session.state ≠ .up) :
    afterCapture w .sync s = degrade (sealOpen (performWrite w s)) := by
  simp [afterCapture, h]

/-- The newest entry of a captured SYNC write: sealed, and held in UP (R68, R81). -/
def syncEntry (up : Bool) (e : Entry) : Entry := { e.seal with held := up || e.held }

theorem syncEntry_false (e : Entry) : syncEntry false e = e.seal := by
  simp only [syncEntry, Bool.false_or, Entry.seal]
  split <;> rfl

/-- The journal after a captured SYNC write: every entry sealed, the newest held in UP (R68, R81). -/
theorem afterCapture_sync_journal (w : HostWrite) {s : State} {older : List Entry} {e : Entry}
    (h : s.journal.entries = older ++ [e]) : (afterCapture w .sync s).journal =
      { s.journal with entries := older.map Entry.seal ++ [syncEntry (decide (s.session.state = .up)) e] } := by
  by_cases hup : s.session.state = .up
  · rw [afterCapture_sync_of_up hup]
    simp [takeHold, sealOpen, mapNewest_eq, h, hup, syncEntry]
  · rw [afterCapture_sync_of_not_up hup]
    simp [degrade, sealOpen, h, hup, syncEntry_false]

/-- The blocks a captured SYNC write changes beside the journal (R68, R69, R81, R89). -/
theorem afterCapture_sync_blocks (w : HostWrite) (s : State) :
    (afterCapture w .sync s).mem = s.mem.writeWord w.addr.toNat { data := w.data, mask := w.mask } ∧
    (afterCapture w .sync s).capture = { s.capture with sealTimer := none } ∧
    (s.session.state = .up →
      (afterCapture w .sync s).hold = { s.hold with holding := true, timer := some (100 * s.params.holdTimeout) } ∧
        (afterCapture w .sync s).events = s.events ∧ (afterCapture w .sync s).counters = s.counters) ∧
    (s.session.state ≠ .up → (afterCapture w .sync s).hold = s.hold ∧
      raisedAndCounted .syncDegraded .syncDegraded s (afterCapture w .sync s)) := by
  refine ⟨?_, ?_, fun h => ?_, fun h => ?_⟩
  · by_cases h : s.session.state = .up
    · simp [afterCapture_sync_of_up h, performWrite]
    · simp [afterCapture_sync_of_not_up h, performWrite]
  · by_cases h : s.session.state = .up
    · simp [afterCapture_sync_of_up h, sealOpen]
    · simp [afterCapture_sync_of_not_up h, sealOpen]
  · simp [afterCapture_sync_of_up h, takeHold]
  · rw [afterCapture_sync_of_not_up h]
    exact ⟨by simp, by simp [degrade, raise], by simp [degrade, count]⟩

/-- The OPEN entry is the newest (R7). -/
theorem openRuns_eq_some {j : Journal} {rs : List Run} (h : j.openRuns = some rs) :
    ∃ e, j.entries.getLast? = some e ∧ e.state = .opened := by
  unfold Journal.openRuns at h
  split at h
  · exact ⟨_, ‹_›, rfl⟩
  · cases h

/-- The journal of a SYNC write merged into the OPEN entry (R63, R68, R81). -/
theorem merged_sync_journal {w : HostWrite} {s : State} {rs rs' : List Run} (hruns : s.journal.openRuns = some rs) :
    (afterCapture w .sync (mergedInto rs' s)).journal = { s.journal with
      entries := s.journal.entries.dropLast.map Entry.seal ++ (s.journal.entries.getLast?.map (fun e =>
        { e with content := .write rs', state := .ready, held := decide (s.session.state = .up) || e.held })).toList } := by
  obtain ⟨e, hlast, hopen⟩ := openRuns_eq_some hruns
  have hentries : (mergedInto rs' s).journal.entries =
      s.journal.entries.dropLast ++ [{ e with content := .write rs' }] := by
    simp [mergedInto, mapNewest_eq, hlast]
  rw [afterCapture_sync_journal w hentries, hlast]
  simp only [mergedInto, syncEntry, Entry.seal, hopen, Option.map_some, Option.toList_some] <;> rfl

/-- The journal of a SYNC write in an entry it has opened (R67, R68, R81). -/
theorem opened_sync_journal {w : HostWrite} {i : WindowId} {s : State} :
    (afterCapture w .sync (openEntry (w.toRun i) (sealedForCapture s))).journal = { s.journal with
      entries := s.journal.entries.map Entry.seal ++
        [{ newEntry s.journal.nextSeq (.write [oneWord i w]) .ready with held := decide (s.session.state = .up) }]
      nextSeq := s.journal.nextSeq + 1#12 } := by
  have hentries : (openEntry (w.toRun i) (sealedForCapture s)).journal.entries = (sealedForCapture s).journal.entries ++
      [newEntry s.journal.nextSeq (.write [oneWord i w]) .opened] := by
    rw [openEntry_journal, pushEntry_journal, sealedForCapture_entries]
    rfl
  rw [afterCapture_sync_journal w hentries, sealedForCapture_map_seal, openEntry_journal, pushEntry_journal,
    sealedForCapture_entries]
  simp [newEntry, syncEntry, Entry.seal]

/-- Settles O31: merged or opened, the capture is followed by the seal, and by the hold in UP. -/
theorem syncCaptureHeld : Obligations.SyncCaptureHeld := by
  intro s w i c hfree hvalid hcaptured hmask hmode hwf hfits merged hmerged hopened
  have hclass := classify_of_capturedAt hvalid hcaptured hmask
  have hwrote := wrote_writeWord { data := w.data, mask := w.mask } hwf hfits
  have after_blocks : ∀ u : State, u.mem = s.mem → u.host.completion = none → u.port.lastGrant = .host →
      (∀ x, { u.capture with sealTimer := x } = { s.capture with sealTimer := x }) → u.session = s.session →
      u.hold = s.hold → u.params = s.params → u.events = s.events → u.counters = s.counters →
      Wrote s.mem (afterCapture w .sync u).mem w.addr.toNat w.mask w.data ∧
        (afterCapture w .sync u).host = { state := .access (.write w), completion := none } ∧
        (afterCapture w .sync u).port = { holder := .hostWrite, lastGrant := .host } ∧
        (afterCapture w .sync u).capture = { s.capture with sealTimer := none } ∧
        (s.session.state = .up → (afterCapture w .sync u).hold =
            { s.hold with holding := true, timer := some (100 * s.params.holdTimeout) } ∧
          (afterCapture w .sync u).events = s.events ∧ (afterCapture w .sync u).counters = s.counters) ∧
        (s.session.state ≠ .up → (afterCapture w .sync u).hold = s.hold ∧
          raisedAndCounted .syncDegraded .syncDegraded s (afterCapture w .sync u)) := by
    intro u hmem hcompletion hgrant hcapture hsession hhold hparams hevents hcounters
    obtain ⟨hm, hcap, hup, hnot⟩ := afterCapture_sync_blocks w u
    rw [hsession, hhold, hparams, hevents, hcounters] at hup
    rw [hsession, hhold, raisedAndCounted, raise, count, hevents, hcounters] at hnot
    refine ⟨by rw [hm, hmem]; exact hwrote, by simp [hcompletion], by simp [hgrant], hcap.trans (hcapture none), hup, hnot⟩
  cases merged with
  | true =>
    obtain ⟨rs, rs', hruns, hmerge, rfl⟩ := hmerged rfl
    obtain ⟨hm, hhost, hport, hcap, hup, hnot⟩ := after_blocks (mergedInto rs' (atGrant w s)) rfl rfl rfl (fun _ => rfl)
      rfl rfl rfl rfl rfl
    refine ⟨_, exec_captured hfree hclass ?_ (settled_afterCapture w .sync (mergedInto rs' (atGrant w s))), hm, hhost,
      hport, hcap, fun _ => merged_sync_journal (s := atGrant w s) hruns, fun h => absurd h (by decide), hup, hnot⟩
    rw [hmode, captureWrite_of_merged (s := atGrant w s) hruns hmerge]
  | false =>
    obtain ⟨rfl, hslot, hneeds⟩ := hopened rfl
    have hfreeSlot : 0 < (sealedForCapture (atGrant w s)).journal.freeSlots := by
      rw [freeSlots_pos, sealedForCapture_entries]
      dsimp only
      split <;> simpa [presented] using hslot
    have hcapture : ∀ x, { (openEntry (w.toRun i) (sealedForCapture (atGrant w s))).capture with sealTimer := x } =
        { s.capture with sealTimer := x } := by
      intro x
      obtain ⟨_, heq⟩ | ⟨_, heq⟩ := sealedForCapture_cases (atGrant w s) <;> rw [heq] <;>
        simp [openEntry, sealOpen, presented]
    obtain ⟨hm, hhost, hport, hcap, hup, hnot⟩ :=
      after_blocks (openEntry (w.toRun i) (sealedForCapture (atGrant w s))) (by simp [presented]) (by simp [presented])
        (by simp [presented]) hcapture (by simp [presented]) (by simp [presented]) (by simp [presented])
        (by simp [presented]) (by simp [presented])
    refine ⟨_, exec_captured hfree hclass ?_
      (settled_afterCapture w .sync (openEntry (w.toRun i) (sealedForCapture (atGrant w s)))), hm, hhost,
      hport, hcap, fun h => absurd h (by decide), fun _ => opened_sync_journal (s := atGrant w s), hup, hnot⟩
    rw [hmode, captureWrite_of_needsEntry (s := atGrant w s) hneeds, openOrStall, if_pos hfreeSlot]

end Sys2Proof.Proofs
end

section
/-! A captured write that finds the journal full: the stall, and under code 0 the restart and the plain write (O30). -/

namespace Sys2Proof.Proofs

open Sys2Proof.Machine

/-! ## A captured write that finds the journal full -/

/-- What a stream restart reads of the part it acts on is the same in x as in s (R19, R20). -/
structure SameBefore (x s : State) : Prop where
  nextSeq : x.journal.nextSeq = s.journal.nextSeq
  held : x.journal.entries.any (fun e => e.held) = s.journal.entries.any (fun e => e.held)
  engine : x.copy.engine = s.copy.engine
  table : x.table = s.table
  hold : x.hold = s.hold
  params : x.params = s.params
  applyq : x.applyq = s.applyq
  mgmt : x.mgmt = s.mgmt
  inReset : x.inReset = s.inReset
  pending : x.pending = s.pending
  rx : x.rx = s.rx
  tx : x.tx = s.tx
  session : x.session = s.session
  enables : x.events.enables = s.events.enables
  counters : ∀ c ≠ .hostStalls, counterValue c x = counterValue c s

theorem SameBefore.restartedStream {r : RestartReason} {g : Gen} {x s t : State} (h : SameBefore x s)
    (hnot : ∀ w, s.host.state ≠ .held w) (hstream : RestartedStream r g x t) : RestartedStream r g s t := by
  obtain ⟨hgen, hreason, hsend, hrewind, hfresh, hstates, hpresent, habsent, hflag, hcount, hseal, hengine, hheld, hfree,
    htable, hparams, happlyq, hmgmt, hreset, hpending, hrx, henables⟩ := hstream
  rw [h.nextSeq] at hsend hpresent habsent
  rw [h.table] at hstates hpresent habsent htable
  rw [h.counters _ (by decide)] at hcount hheld hfree
  rw [h.engine] at hengine
  rw [h.held] at hheld hfree
  rw [h.hold] at hfree
  rw [h.params] at hparams
  rw [h.applyq] at happlyq
  rw [h.mgmt] at hmgmt
  rw [h.inReset] at hreset
  rw [h.pending] at hpending
  rw [h.rx] at hrx
  rw [h.enables] at henables
  refine ⟨hgen, hreason, hsend, hrewind, hfresh, hstates, hpresent, habsent, hflag, hcount, hseal, hengine, fun hh => ?_,
    hfree, htable, hparams, happlyq, hmgmt, hreset, hpending, hrx, henables⟩
  obtain ⟨hhold, hlate, hcount', _⟩ := hheld hh
  exact ⟨hhold, hlate, hcount', fun w hw => absurd hw (hnot w)⟩

theorem SameBefore.restartedSession {x s t : State} (h : SameBefore x s) (hsession : RestartedSession x t) :
    RestartedSession s t := by
  unfold RestartedSession Aborted at hsession ⊢
  rw [h.session, h.params, h.tx, h.counters _ (by decide)] at hsession
  exact hsession

theorem sameBefore_stallBegun (w : HostWrite) (s : State) :
    SameBefore (stallBegun w (sealedForCapture (atGrant w s))) s where
  nextSeq := by simp [sealedForCapture_entries, presented]
  held := by
    simp only [stallBegun_frame, sealedForCapture_entries]
    split <;> simp [presented, Function.comp_def]
  engine := by simp [presented]
  table := by simp [presented]
  hold := by simp [presented]
  params := by simp [presented]
  applyq := by simp [presented]
  mgmt := by simp [presented]
  inReset := by simp [presented]
  pending := by simp [presented]
  rx := by simp [presented]
  tx := by simp [presented]
  session := by simp [presented]
  enables := by
    simp [stallBegun, presented]
  counters := fun c hc => by
    rw [stallBegun, counterValue_count_other hc, counterValue_of_counters (s := s) (by simp [presented])]

/-- A stream restart leaves a set flag set. -/
theorem flagSet_restart_of_set {e : Event} (r : RestartReason) {s : State} (h : flagSet e s = true) :
    flagSet e (restart r s) = true := by
  have hdiscard : flagSet e (discardJournal s) = true := by
    cases hheld : s.journal.entries.any (fun e => e.held) with
    | true =>
      obtain ⟨_, hevents, _⟩ := discardJournal_of_held hheld
      exact (flagSet_of_events hevents e).trans (flagSet_raise_of_set _ h)
    | false =>
      obtain ⟨_, hevents, _⟩ := discardJournal_of_not_held hheld
      exact (flagSet_of_events hevents e).trans h
  exact flagSet_restart (flagSet_raise_of_set _ (flagSet_restartSession ((flagSet_of_events (by simp) _).trans hdiscard)))

/-- With no write held the host port has no part in what a restart leaves (R85). -/
theorem restartedStream_setHost (x : HostPort) {r : RestartReason} {g : Gen} {s t : State}
    (hnot : ∀ w, s.host.state ≠ .held w) (h : RestartedStream r g s t) : RestartedStream r g s (t.setHost x) := by
  obtain ⟨hgen, hreason, hsend, hrewind, hfresh, hstates, hpresent, habsent, hflag, hcount, hseal, hengine, hheld, hfree,
    htable, hparams, happlyq, hmgmt, hreset, hpending, hrx, henables⟩ := h
  refine ⟨hgen, hreason, hsend, hrewind, hfresh, hstates, hpresent, habsent, hflag, hcount, hseal, hengine,
    fun hh => ?_, hfree, htable, hparams, happlyq, hmgmt, hreset, hpending, hrx, henables⟩
  obtain ⟨hhold, hlate, hcount', _⟩ := hheld hh
  exact ⟨hhold, hlate, hcount', fun w hw => absurd hw (hnot w)⟩

theorem restartedStream_count {c : Counter} (hrestarts : c ≠ .streamRestarts) (hlate : c ≠ .syncLate)
    {r : RestartReason} {g : Gen} {s t : State} (h : RestartedStream r g s t) : RestartedStream r g s (count c t) := by
  unfold RestartedStream at h ⊢
  rw [counterValue_count_other hrestarts.symm, counterValue_count_other hlate.symm]
  exact h

theorem restartedSession_raise (e : Event) {s t : State} (h : RestartedSession s t) :
    RestartedSession s (raise e t) := by
  obtain ⟨hup, hseek, hother⟩ := h
  refine ⟨fun hs => ?_, hseek, hother⟩
  obtain ⟨hstate, hseen, hloss, habort, hhello, hsilence, hack, htimer, hflag, hcount⟩ := hup hs
  exact ⟨hstate, hseen, hloss, habort, hhello, hsilence, hack, htimer, flagSet_raise_of_set e hflag, hcount⟩

theorem restartedSession_count {c : Counter} (hc : c ≠ .sessionLosses) {s t : State} (h : RestartedSession s t) :
    RestartedSession s (count c t) := by
  unfold RestartedSession at h ⊢
  rw [counterValue_count_other hc.symm]
  exact h

/-- A granted plain write, reported when a SYNC window should have held it (R51, R89). -/
def plainWritten (degraded : Bool) (w : HostWrite) (m : Memory) (s : State) : State :=
  if degraded then degrade (writeGranted w m s) else writeGranted w m s

/-- A plain write leaves standing what a restart before it has left (R51, R71, R89). -/
theorem restartedStream_plainWritten {r : RestartReason} {g : Gen} {s t : State} (w : HostWrite) (m : Memory)
    (degraded : Bool) (hnot : ∀ w, s.host.state ≠ .held w) (h : RestartedStream r g s t) :
    RestartedStream r g s (plainWritten degraded w m t) := by
  have hwritten : RestartedStream r g s (writeGranted w m t) :=
    restartedStream_setHost (t := (t.setPort { holder := .hostWrite, lastGrant := .host }).setMem m) _ hnot h
  cases degraded with
  | false => exact hwritten
  | true =>
    exact restartedStream_count (c := .syncDegraded) (by decide) (by decide) (restartedStream_raise .syncDegraded hwritten)

theorem restartedSession_plainWritten {s t : State} (w : HostWrite) (m : Memory) (degraded : Bool)
    (h : RestartedSession s t) : RestartedSession s (plainWritten degraded w m t) := by
  have hwritten : RestartedSession s (writeGranted w m t) := h
  cases degraded with
  | false => exact hwritten
  | true => exact restartedSession_count (c := .syncDegraded) (by decide) (restartedSession_raise .syncDegraded hwritten)

theorem plainWritten_blocks (degraded : Bool) (w : HostWrite) (m : Memory) (s : State) :
    (plainWritten degraded w m s).host = { state := .access (.write w), completion := none } ∧
    (plainWritten degraded w m s).port = { holder := .hostWrite, lastGrant := .host } ∧
    (plainWritten degraded w m s).mem = m ∧
    (∀ e, flagSet e s = true → flagSet e (plainWritten degraded w m s) = true) ∧
    ∀ c ≠ .syncDegraded, counterValue c (plainWritten degraded w m s) = counterValue c s := by
  cases degraded with
  | false => exact ⟨rfl, rfl, rfl, fun _ h => h, fun _ _ => rfl⟩
  | true =>
    exact ⟨rfl, rfl, rfl, fun e h => flagSet_raise_of_set (s := writeGranted w m s) _ h,
      fun c hc => counterValue_count_other hc _⟩

/-- The part that a stall under STALL_TIMEOUT code 0 restarts, its host port IDLE again (R71, R19). -/
abbrev stallRestarted (w : HostWrite) (s : State) : State :=
  (restart .stall (stallBegun w (sealedForCapture (atGrant w s)))).setHost { state := .idle, completion := none }

/-- Under code 0 the write comes to the restarted part as a new one (R71). -/
theorem stallWrite_of_code_zero (w : HostWrite) {s : State} (h : s.params.stallTimeout = 0) :
    stallWrite w (sealedForCapture (atGrant w s)) = presented (.write w) (stallRestarted w s) := by
  have hzero : (sealedForCapture (atGrant w s)).params.stallTimeout = 0 := by simpa [presented] using h
  have hstalled : (stallBegun w (sealedForCapture (atGrant w s))).host.state = .stalled w := by simp
  obtain ⟨hhost, _⟩ := restart_of_stalled (r := .stall) hstalled
  rw [stallWrite_eq, if_pos hzero, represent, hhost]
  simp [presented, stallRestarted]

/-- The restarted part grants the write as it grants a new one (R46, R71). -/
theorem exec_stalled_code_zero {s : State} {w : HostWrite} {i : WindowId} (hfree : HostFree s)
    (hclass : classify s w = .captured i) (hzero : s.params.stallTimeout = 0)
    (hstall : captureWrite w i s.table.active[i].mode (atGrant w s) = stallWrite w (sealedForCapture (atGrant w s))) :
    exec (.hostTransaction (.write w)) s = exec (.hostTransaction (.write w)) (stallRestarted w s) := by
  obtain ⟨hrun, hidle, hport, hengine⟩ := hfree
  have honce : grantOnce (presented (.write w) s) = presented (.write w) (stallRestarted w s) := by
    have hgrant : grantOnce (presented (.write w) s) = grantHost (presented (.write w) s) := by
      have hengine' : engineRequests (presented (.write w) s) = false := hengine
      simp [grantOnce, hengine', show (presented (.write w) s).port.holder = .idle from hport,
        show hostRequests (presented (.write w) s) = true from rfl]
    rw [hgrant, grantHost_presented, grantWrite, classify_presented, hclass, ← stallWrite_of_code_zero w hzero]
    exact hstall
  have hplain : PlainOnly (presented (.write w) (stallRestarted w s)) :=
    plainOnly_of_restarted (by simpa [presented] using role_of_captured hclass) (restart_states _ _)
  rw [exec_hostTransaction _ hrun hidle, exec_hostTransaction (s := stallRestarted w s) _ (by simpa [presented] using hrun) rfl]
  simp only [arbitrate, honce, grantOnce_of_settled (settled_grantOnce (.inr hplain))]

/-- The restarted part has a free port and takes the write as a plain one (R49, R71). -/
theorem stallRestarted_free {s : State} (w : HostWrite) (hfree : HostFree s) : HostFree (stallRestarted w s) := by
  obtain ⟨hrun, _, hport, hengine⟩ := hfree
  obtain ⟨happly, hcopy⟩ := no_request_of_engineRequests hengine
  have hsame := sameBefore_stallBegun w s
  have hstream := restartedStream .stall (stallBegun w (sealedForCapture (atGrant w s)))
  refine ⟨by simpa [presented] using hrun, rfl, by simpa [presented] using hport, ?_⟩
  have happly' : (stallRestarted w s).applyq = s.applyq := by simp [presented]
  have hcopy' : (stallRestarted w s).copy.engine = s.copy.engine := by
    obtain ⟨_, _, _, _, _, _, _, _, _, _, _, hkept, _⟩ := hstream
    exact (hkept (by rw [hsame.engine]; exact hcopy)).trans hsame.engine
  unfold engineRequests
  rw [happly', hcopy']
  exact hengine

theorem settled_stalled {s : State} {w : HostWrite} (hhost : s.host.state = .stalled w) (hengine : engineRequests s = false) :
    Settled s := fun _ => ⟨by simp [hostRequests, hhost], hengine⟩

/-- Under any code but 0 the stall stands, and its timer runs under any but 255 (R71, R72). -/
theorem stallWrite_of_code_nonzero (w : HostWrite) {s : State} (h : s.params.stallTimeout ≠ 0) :
    ∃ x, stallWrite w s = (stallBegun w s).setCapture { s.capture with stallTimer := x } ∧
      (s.params.stallTimeout ≤ 254 → x = some (100 * s.params.stallTimeout)) ∧
      (s.params.stallTimeout = 255 → x = none) := by
  rw [stallWrite_eq, if_neg h]
  split
  · exact ⟨_, rfl, by omega, fun _ => rfl⟩
  · exact ⟨_, rfl, fun _ => rfl, by omega⟩

/-- Settles O30: with code 0 the restarted part takes the write as a new one, with any other the stall stands. -/
theorem fullJournalStalls : Obligations.FullJournalStalls := by
  intro s w i hfree hvalid hcaptured hmask hfull hneeds
  have hclass := classify_of_capturedAt hvalid hcaptured hmask
  have ⟨hrun, hidle, hport, hengine⟩ := hfree
  have hnoslot : ¬0 < (sealedForCapture (atGrant w s)).journal.freeSlots := by
    rw [freeSlots_pos, sealedForCapture_entries]
    dsimp only
    split <;> simp [presented, hfull]
  have hstall : ∀ m, captureWrite w i m (atGrant w s) = stallWrite w (sealedForCapture (atGrant w s)) := fun m => by
    rw [captureWrite_of_needsEntry (s := atGrant w s) hneeds, openOrStall, if_neg hnoslot]
  refine ⟨fun hcode => ?stalls, fun hzero hwf hfits => ?restarts⟩
  case stalls =>
    have hparams : (sealedForCapture (atGrant w s)).params = s.params := by simp [presented]
    obtain ⟨x, heq, hshort, hlong⟩ := stallWrite_of_code_nonzero w (hparams.symm ▸ hcode)
    rw [hparams] at hshort hlong
    refine ⟨_, exec_captured hfree hclass ((hstall _).trans heq) ?_, ?_, fun hopen => ?_, fun hopen => ?_, hshort, hlong⟩
    · exact settled_stalled (w := w) (by simp) (by simpa [engineRequests, presented] using hengine)
    · apply state_ext <;> simp [presented, stallBegun, raise, count, hport]
    · obtain ⟨_, hv⟩ | ⟨hv, _⟩ := sealedForCapture_cases (atGrant w s)
      · simp [hv, presented]
      · exact absurd hopen hv
    · obtain ⟨hv, _⟩ | ⟨_, hv⟩ := sealedForCapture_cases (atGrant w s)
      · exact absurd hv hopen
      · simp [hv, presented, sealOpen]
  case restarts =>
    have hsame := sameBefore_stallBegun w s
    have hnot : ∀ w, s.host.state ≠ .held w := by simp [hidle]
    have hmem : (stallRestarted w s).mem = s.mem := by simp [presented]
    have hstream : RestartedStream .stall (nextGeneration s.journal.generation) s (stallRestarted w s) := by
      have hx := hsame.restartedStream hnot (restartedStream .stall (stallBegun w (sealedForCapture (atGrant w s))))
      rw [show restartGeneration .stall (stallBegun w (sealedForCapture (atGrant w s))) =
        nextGeneration s.journal.generation by simp [restartGeneration, sealedForCapture_entries, presented]] at hx
      exact restartedStream_setHost _ hnot hx
    obtain ⟨degraded, hplain⟩ := plainOnly_of_restarted (s := stallRestarted w s)
      (by simpa [presented] using role_of_captured hclass) (restart_states _ _) w
    have hexec := (exec_stalled_code_zero hfree hclass hzero (hstall _)).trans
      (exec_plain_write (stallRestarted_free w hfree) hplain)
    obtain ⟨hhost, hport', hmem', hflags, hcounts⟩ := plainWritten_blocks degraded w
      (s.mem.writeWord w.addr.toNat { data := w.data, mask := w.mask }) (stallRestarted w s)
    rw [hmem] at hexec
    refine ⟨_, hexec, restartedStream_plainWritten w _ degraded hnot hstream,
      restartedSession_plainWritten w _ degraded (hsame.restartedSession (restartedSession .stall (by simpa [presented] using hrun))),
      hhost, hport', ?_, hflags .hostStall ?_, (hcounts .hostStalls (by decide)).trans ?_⟩
    · show Wrote s.mem (plainWritten degraded w _ (stallRestarted w s)).mem _ _ _
      rw [hmem']
      exact wrote_writeWord { data := w.data, mask := w.mask } hwf hfits
    · exact flagSet_restart_of_set .stall (flagSet_raise_same .hostStall _)
    · refine (counterValue_restart .hostStalls .stall (stallBegun w (sealedForCapture (atGrant w s)))).trans ?_
      rw [counterValue_count_other (by decide), counterValue_restartSession (by decide),
        counterValue_restartBegun, counterValue_discardJournal (by decide), stallBegun, counterValue_count_same,
        counterValue_of_counters (s := s) (by simp [presented])]

end Sys2Proof.Proofs
end

section
/-! The transmitter: which frame starts, with which fields (O35), and what the END of each kind of frame does (O36). -/

namespace Sys2Proof.Proofs

open Sys2Proof.Machine

/-! ## Starts -/

theorem exec_frameStart {s : State} (hrun : s.inReset = false) : exec .frameStart s = .next (startFrame s) :=
  working_of_running startFrame s hrun

theorem startFrame_of_sending {s : State} (h : s.tx.sending ≠ none) : startFrame s = s := by
  obtain heq | ⟨_, _, hidle, _⟩ := startFrame_cases s
  · exact heq
  · exact absurd hidle h

/-- An IDLE transmitter starts the frame that is due first (R107, R108). -/
theorem startFrame_of_next {s : State} {k : TxKind} {f : Frame} (hidle : s.tx.sending = none)
    (hnext : nextFrame s = some (k, f)) : startFrame s =
      (clearDue k s).setTx { (clearDue k s).tx with sending := some { kind := k, bytes := f.bytes } } := by
  simp [startFrame, hidle, hnext]

theorem startFrame_of_none {s : State} (hnext : nextFrame s = none) : startFrame s = s := by
  simp [startFrame, hnext]

/-- In UP at a secondary with no HELLO due, a pending LINK frame is next (R106, R107). -/
theorem nextFrame_link {s : State} (hbye : s.tx.byeDue = none) (hhello : s.tx.helloDue = false)
    (hup : s.session.state = .up) (hrole : s.part.role = .secondary) (hlink : s.acker.linkPending = true) :
    nextFrame s = some (.link, .link (linkFrame s)) := by
  simp [nextFrame, hbye, helloIsDue, hhello, linkIsDue, hup, hrole, hlink]

/-- In UP at a primary with no HELLO due, what is next is the DATA frame that is due (R106, R107). -/
theorem nextFrame_data {s : State} (hbye : s.tx.byeDue = none) (hhello : s.tx.helloDue = false)
    (hrole : s.part.role = .primary) :
    nextFrame s = (dataDue s).map (fun e => (.data e.seq, .data { seq := e.seq, content := e.content })) := by
  have hlink : linkIsDue s = false := by simp [linkIsDue, hrole]
  have hhello' : helloIsDue s = false := by simp [helloIsDue, hhello]
  simp only [nextFrame, hbye, hhello', hlink, Bool.false_eq_true, if_false]
  cases dataDue s <;> rfl

/-- Settles O35: what is due first, role by role. -/
theorem frameStartOrder : Obligations.FrameStartOrder := by
  intro s hrun
  rw [exec_frameStart hrun]
  refine ⟨fun hs => by rw [startFrame_of_sending hs], fun r hidle hbye => ?bye, fun hidle hbye hdue hstate => ?hello,
    fun hidle hbye hhello hup hrole hlink => ⟨_, ?link, rfl⟩,
    fun e hidle hbye hhello hup hrole hentry hready hlimit => ⟨_, ?data, rfl⟩,
    fun hidle hbye hhello hup hrole hlimit => ?limit⟩
  case bye =>
    rw [startFrame_of_next hidle (k := .bye r) (f := .bye r) (by simp [nextFrame, hbye])]
    rfl
  case hello =>
    have hnext : nextFrame s = some (.hello, .hello (helloFrame s)) := by
      have hdue' : helloIsDue s = true := by
        rcases hstate with h | h <;> simp [helloIsDue, hdue, h]
      simp [nextFrame, hbye, hdue']
    refine ⟨helloFrame s, by rw [startFrame_of_next hidle hnext]; rfl, ?_⟩
    unfold helloFrame
    cases hrole : s.part.role <;> simp [Config.linkRevision]
  case link =>
    rw [startFrame_of_next hidle (nextFrame_link hbye hhello hup hrole hlink)]
    rfl
  case data =>
    have hdue : dataDue s = some e := by simp [dataDue, hrole, hup, hlimit, hentry, hready]
    rw [startFrame_of_next hidle (by rw [nextFrame_data hbye hhello hrole, hdue]; rfl)]
    rfl
  case limit =>
    have hdue : dataDue s = none := by simp [dataDue, hlimit]
    rw [startFrame_of_none (by rw [nextFrame_data hbye hhello hrole, hdue]; rfl)]

/-! ## Ends -/

/-- What is INFLIGHT precedes the send point (R5). -/
theorem Shape.precedes_of_inflight {j : Journal} {k : Nat} (h : Shape j k) {e : Entry} (he : e ∈ j.entries)
    (hstate : e.state = .inflight) : seqPrecedes e.seq j.sendPoint = true := by
  obtain ⟨n, hn, rfl⟩ := List.getElem_of_mem he
  have hlen := h.len
  have hle := h.le
  rw [h.seq n hn, h.point, seqPrecedes_add _ (by omega) (by omega)]
  exact decide_eq_true ((h.placed n hn).mp hstate)

/-- The entry at the send point of a DATA frame's END is READY, and becomes INFLIGHT (R8). -/
theorem Shape.map_sent {j : Journal} {k : Nat} (h : Shape j k) (hk : k < j.entries.length)
    (hready : j.entries[k].state = .ready) : j.entries.map (Entry.sent j.sendPoint) =
      j.entries.map (fun e => if e.seq = j.sendPoint then { e with state := .inflight } else e) := by
  have hlen := h.len
  refine List.map_congr_left fun e he => ?_
  obtain ⟨n, hn, rfl⟩ := List.getElem_of_mem he
  unfold Entry.sent
  by_cases hseq : j.entries[n].seq = j.sendPoint
  · have hnk : n = k := by
      rw [h.seq n hn, h.point] at hseq
      exact add_ofNat_inj _ (by omega) (by omega) hseq
    subst hnk
    simp [hseq, hready]
  · simp [hseq]

theorem endDataFrame_tx {s : State} {q : Seq} {bytes : List Byte}
    (h : s.tx.sending = some { kind := .data q, bytes := bytes }) :
    (endDataFrame s).tx = { s.tx with sending := none, lastEnding := .ended } ∧
      (endDataFrame s).sender = if s.sender.ackTimer.isSome then s.sender
        else { s.sender with ackTimer := some (10 * s.params.ackTimeout) } := by
  simp only [endDataFrame, h]
  rw [takeHeldRewind_eq]
  by_cases hack : s.sender.ackTimer.isSome = true <;> simp [endFrame, hack]

/-- Settles O36: each kind of frame by the function that ends it. -/
theorem frameEnds : Obligations.FrameEnds := by
  intro s bytes hrun
  refine ⟨fun hsound hsending => ?data, fun k hk hsending => ?control, fun hclosing hsending => ?disabled,
    fun _ hsending => ?fault, fun f hf => by simp [transmitLane, hrun, hf, frameSymbols],
    fun hidle hended => by simp [transmitLane, hrun, hidle, hended]⟩
  case data =>
    obtain ⟨k, h⟩ := (journalSound_iff s).mp hsound
    obtain ⟨_, ⟨hk, hready⟩, _⟩ := h.sending _ bytes hsending
    have hsent := h.shape.sent hk hready
    have hjournal := endDataFrame_journal s _ bytes hsending
    obtain ⟨htx, hsender⟩ := endDataFrame_tx hsending
    refine ⟨_, working_of_running endDataFrame s hrun, ?_, fun hnone => ?_, fun hsome => ?_, fun hheld => ?_,
      fun m hm => ?_⟩
    · apply state_ext <;> simp [htx]
    · rw [hsender, hnone]
      rfl
    · rw [hsender, if_pos (Option.isSome_iff_ne_none.mpr hsome)]
    · rw [hjournal, heldRewindTaken_of_none _ (by exact hheld), h.shape.map_sent hk hready]
    · obtain ⟨i, hshape, hnone⟩ := hsent.heldRewindTaken fun m hm => by
        have hback := (h.held m hm).2
        show (s.journal.sendPoint + 1#12 - m).toNat ≤ 65
        bv_omega
      rw [← hjournal] at hshape hnone
      refine ⟨hnone, ?_, fun e he hstate => hshape.precedes_of_inflight he hstate⟩
      have hold : Journal.oldest { s.journal with
          entries := s.journal.entries.map (Entry.sent s.journal.sendPoint)
          sendPoint := s.journal.sendPoint + 1#12 } = s.journal.oldest := by
        rw [hsent.oldest, h.shape.oldest]
        simp [oldestSeq]
      have hspec := heldRewindTaken_spec (s := s.setJournal { s.journal with
          entries := s.journal.entries.map (Entry.sent s.journal.sendPoint)
          sendPoint := s.journal.sendPoint + 1#12 }) (t := endDataFrame s) hm hjournal
      obtain ⟨ht, _⟩ := hspec _ rfl
      rw [ht]
      simp only [State.setJournal_journal, hold]
  case control =>
    refine (working_of_running endControlFrame s hrun).trans (congrArg _ ?_)
    rcases hk with rfl | rfl <;> simp [endControlFrame, hsending, endFrame]
  case disabled =>
    have hend : endByeDisabled s = enterOff (endFrame s) := by simp [endByeDisabled, hsending]
    rw [enterOff, abortFrame_of_idle (endFrame s) rfl] at hend
    exact ⟨_, (working_of_running endByeDisabled s hrun).trans (congrArg _ hend), rfl, rfl, rfl, rfl⟩
  case fault =>
    refine (working_of_running endByeFault s hrun).trans (congrArg _ ?_)
    simp [endByeFault, hsending, endFrame]

end Sys2Proof.Proofs
end

section
/-! Releases and rewinds of a sound journal in the words of the statements: what is released is what a filter finds, and
what it hands on. -/

namespace Sys2Proof.Proofs

open Sys2Proof.Machine

/-! ## What a release removes -/

/-- Whether a release with the seq at index b removes the entry at index i (R15). -/
theorem Shape.releasable {j : Journal} {k : Nat} (h : Shape j k) {b : Nat} (hb : b ≤ j.entries.length) {n : Seq}
    (hn : n = oldestSeq j + BitVec.ofNat 12 b) (i : Nat) (hi : i < j.entries.length) :
    Machine.releasable n j.entries[i] = (decide (i < b) && j.entries[i].state != .opened) := by
  have hlen := h.len
  rw [Machine.releasable, h.seq i hi, hn, seqPrecedes_add _ (by omega) (by omega)]

/-- The entries that stay are the ones a release cannot remove (R15). -/
theorem Shape.not_releasable_of_kept {j : Journal} {k : Nat} (h : Shape j k) {b : Nat} (hb : b ≤ j.entries.length)
    {n : Seq} (hn : n = oldestSeq j + BitVec.ofNat 12 b) {e : Entry} (he : e ∈ j.entries.drop (j.gone n).length) :
    Machine.releasable n e = false := by
  obtain ⟨i, hi, rfl⟩ := List.getElem_of_mem he
  rw [List.length_drop] at hi
  rw [List.getElem_drop, h.releasable hb hn _ (by omega)]
  obtain hgone | ⟨hgone, hlast, hb', ho⟩ := h.gone_length hb hn
  · simp [hgone]
  · have hindex : (j.gone n).length + i = b - 1 := by omega
    simp [hindex, ho]

/-- A release with a seq of the journal removes exactly the entries that can go (R15). -/
theorem Shape.gone_eq_filter {j : Journal} {k : Nat} (h : Shape j k) {b : Nat} (hb : b ≤ j.entries.length) {n : Seq}
    (hn : n = oldestSeq j + BitVec.ofNat 12 b) : j.gone n = j.entries.filter (Machine.releasable n) ∧
      (j.afterRelease n).entries = j.entries.filter (fun e => !Machine.releasable n e) := by
  have hsplit : j.gone n ++ j.entries.drop (j.gone n).length = j.entries := by
    rw [Journal.gone, ← dropWhile_eq_drop, List.takeWhile_append_dropWhile]
  have hgone : ∀ e ∈ j.gone n, Machine.releasable n e = true := fun e he => List.mem_takeWhile_imp he
  have hkept : ∀ e ∈ j.entries.drop (j.gone n).length, Machine.releasable n e = false := fun e he =>
    h.not_releasable_of_kept hb hn he
  obtain ⟨hafter, _⟩ := h.afterRelease n
  constructor
  · conv_rhs => rw [← hsplit, List.filter_append]
    rw [List.filter_eq_self.mpr hgone, List.filter_eq_nil_iff.mpr (by simpa using hkept), List.append_nil]
  · rw [hafter]
    conv_rhs => rw [← hsplit, List.filter_append]
    rw [List.filter_eq_nil_iff.mpr (by simpa using hgone), List.filter_eq_self.mpr (by simpa using hkept), List.nil_append]

/-- Before the send point every entry is INFLIGHT, so none is OPEN (R5). -/
theorem Shape.releasable_eq_precedes {j : Journal} {k : Nat} (h : Shape j k) {b : Nat} (hb : b ≤ k) {n : Seq}
    (hn : n = oldestSeq j + BitVec.ofNat 12 b) {e : Entry} (he : e ∈ j.entries) :
    Machine.releasable n e = seqPrecedes e.seq n := by
  have hle := h.le
  have hlen := h.len
  obtain ⟨i, hi, rfl⟩ := List.getElem_of_mem he
  rw [h.releasable (by omega) hn, h.seq i hi, hn, seqPrecedes_add _ (by omega) (by omega)]
  by_cases hlt : i < b
  · simp [(h.placed i hi).mpr (by omega)]
  · simp [hlt]

theorem index_up_to_sendPoint {j : Journal} {k : Nat} (h : Shape j k) {e : Seq}
    (he : seqLiesIn e j.oldest j.sendPoint = true) : ∃ b, b ≤ k ∧ e = oldestSeq j + BitVec.ofNat 12 b := by
  have hlen := h.len
  have hle := h.le
  rw [h.oldest, h.point] at he
  simp only [seqLiesIn, decide_eq_true_eq] at he
  refine ⟨(e - oldestSeq j).toNat, by bv_omega, ?_⟩
  rw [BitVec.ofNat_toNat, BitVec.setWidth_eq]
  bv_omega

/-! ## What a release hands on -/

/-- The blocks a release acts on before a stall ends (R16). -/
def releaseHandedOn (n : Seq) (s : State) : State :=
  let gone := s.journal.gone n
  let s := s.setJournal (s.journal.afterRelease n)
  let s := if gone.any (fun e => e.held) then endHold .released s else s
  let s := if gone.any Entry.isSynced then s.setSession { s.session with rejectRestarts := 0 } else s
  s.setSender { s.sender with
    retryCount := 0
    ackTimer := if s.journal.entries.any (fun e => e.state == .inflight) then some (10 * s.params.ackTimeout) else none }

theorem release_of_gone {n : Seq} {s : State} (h : s.journal.gone n ≠ []) :
    release n s = endStall (releaseHandedOn n s) := if_neg h

theorem release_of_nothing_gone {n : Seq} {s : State} (h : s.journal.gone n = []) : release n s = s := if_pos h

theorem releaseHandedOn_blocks (n : Seq) (s : State) :
    (releaseHandedOn n s).sender = { s.sender with
      retryCount := 0
      ackTimer := if (s.journal.afterRelease n).entries.any (fun e => e.state == .inflight)
        then some (10 * s.params.ackTimeout) else none } ∧
    (releaseHandedOn n s).session =
      (if (s.journal.gone n).any Entry.isSynced then { s.session with rejectRestarts := 0 } else s.session) ∧
    (releaseHandedOn n s).capture = s.capture := by
  cases hheld : (s.journal.gone n).any (fun e => e.held) <;>
    cases hsynced : (s.journal.gone n).any Entry.isSynced <;> simp [releaseHandedOn, hheld, hsynced]

theorem releaseHandedOn_of_held {n : Seq} {s : State} (h : (s.journal.gone n).any (fun e => e.held) = true) :
    (releaseHandedOn n s).hold = { holding := false, timer := none, last := .released } ∧
      (∀ w, s.host.state = .held w → (releaseHandedOn n s).host = { state := .idle, completion := some .writeDone }) ∧
      ((∀ w, s.host.state ≠ .held w) → (releaseHandedOn n s).host = s.host) := by
  simp only [releaseHandedOn, h, if_true]
  refine ⟨by split <;> simp, fun w hw => ?_, fun hnot => ?_⟩
  · rw [← endHold_host_of_held .released (s.setJournal (s.journal.afterRelease n)) w hw]
    split <;> rfl
  · have hhost := endHold_host_of_not_held .released (s.setJournal (s.journal.afterRelease n)) hnot
    split <;> exact hhost

theorem releaseHandedOn_of_not_held {n : Seq} {s : State} (h : (s.journal.gone n).any (fun e => e.held) = false) :
    (releaseHandedOn n s).hold = s.hold ∧ (releaseHandedOn n s).host = s.host := by
  simp only [releaseHandedOn, h, Bool.false_eq_true, if_false]
  split <;> exact ⟨rfl, rfl⟩

/-- What a release that removes entries leaves beside the journal (R16, R73, R83, R128, R136). -/
structure ReleaseHandsOn (gone kept : List Entry) (s t : State) : Prop where
  sender : t.sender = { s.sender with
    retryCount := 0
    ackTimer := if kept.any (fun e => decide (e.state = .inflight)) then some (10 * s.params.ackTimeout) else none }
  stalled : ∀ w, s.host.state = .stalled w → t.host = { s.host with state := .request (.write w) false false } ∧
    t.capture.stallTimer = none
  held : gone.any (fun e => e.held) = true → t.hold = { holding := false, timer := none, last := .released } ∧
    ∀ w, s.host.state = .held w → t.host = { state := .idle, completion := some .writeDone }
  free : gone.any (fun e => e.held) = false → t.hold = s.hold
  session : t.session = if gone.any Entry.isSynced then { s.session with rejectRestarts := 0 } else s.session

/-- A release hands on its results (R16). -/
theorem release_handsOn {n : Seq} {s : State} (h : s.journal.gone n ≠ []) :
    ReleaseHandsOn (s.journal.gone n) (s.journal.afterRelease n).entries s (release n s) := by
  obtain ⟨hsender, hsession, hcapture⟩ := releaseHandedOn_blocks n s
  rw [release_of_gone h]
  refine ⟨?_, fun w hw => ?_, fun hheld => ⟨?_, fun w hw => ?_⟩, fun hfree => ?_, ?_⟩
  · simpa [beq_eq_decide] using hsender
  · have hhost : (releaseHandedOn n s).host = s.host := by
      cases hheld : (s.journal.gone n).any (fun e => e.held) with
      | true => exact (releaseHandedOn_of_held hheld).2.2 (by simp [hw])
      | false => exact (releaseHandedOn_of_not_held hheld).2
    obtain ⟨hrequest, htimer⟩ := endStall_of_stalled (s := releaseHandedOn n s) (w := w) (by rw [hhost, hw])
    exact ⟨by rw [hrequest, hhost], by rw [htimer]⟩
  · simpa using (releaseHandedOn_of_held hheld).1
  · have hdone := (releaseHandedOn_of_held hheld).2.1 w hw
    rw [(endStall_host_of_not_stalled (by simp [hdone])).1, hdone]
  · simpa using (releaseHandedOn_of_not_held hfree).1
  · simpa using hsession

/-! ## Rewinds -/

/-- A rewind to the oldest entry makes every INFLIGHT entry READY (R17). -/
theorem Shape.map_rewind_oldest {j : Journal} {k : Nat} (h : Shape j k) {m : Seq} (hm : m = oldestSeq j) :
    j.entries.map (Entry.rewind m) =
      j.entries.map (fun e => if e.state = .inflight then { e with state := .ready } else e) := by
  have hlen := h.len
  refine List.map_congr_left fun e he => ?_
  obtain ⟨i, hi, rfl⟩ := List.getElem_of_mem he
  have hnot : seqPrecedes j.entries[i].seq m = false := by
    have hzero : m = oldestSeq j + BitVec.ofNat 12 0 := by simp [hm]
    rw [h.seq i hi, hzero, seqPrecedes_add _ (by omega) (by omega)]
    simp
  simp [Entry.rewind, hnot]

/-- With no DATA frame in transmission the rewind to the oldest entry is taken at once (R17). -/
theorem Shape.requestRewind_oldest {s : State} {k : Nat} (h : Shape s.journal k) {m : Seq} (hm : m = oldestSeq s.journal)
    (hd : sendingData s = false) : (requestRewind m s).journal = { s.journal with
      sendPoint := m
      entries := s.journal.entries.map (fun e => if e.state = .inflight then { e with state := .ready } else e) } := by
  rw [requestRewind, hd, if_neg Bool.false_ne_true, rewind_journal, ← h.map_rewind_oldest hm]
  split
  · rename_i hpoint
    have hk : k = 0 := by
      have hlen := h.len
      have hle := h.le
      rw [h.point, hm] at hpoint
      exact (add_ofNat_inj (oldestSeq s.journal) (a := 0) (by omega) (by omega) (by simpa using hpoint)).symm
    have hsame : s.journal.entries.map (Entry.rewind m) = s.journal.entries := by
      conv_rhs => rw [← List.map_id s.journal.entries]
      refine List.map_congr_left fun e he => ?_
      obtain ⟨i, hi, rfl⟩ := List.getElem_of_mem he
      have hready : s.journal.entries[i].state ≠ .inflight := fun hs => by
        have hlt := (h.placed i hi).mp hs
        omega
      simp [Entry.rewind, hready]
    rw [hsame, hpoint]
  · rfl

theorem requestRewind_sending {s : State} (m : Seq) (hd : sendingData s = true) :
    requestRewind m s = s.setJournal { s.journal with heldRewind := some m } := if_pos hd

end Sys2Proof.Proofs
end

section
/-! LINK frames at a primary (O37), rejections (O38), the ack timer and the losses (O39). -/

namespace Sys2Proof.Proofs

open Sys2Proof.Machine

/-! ## LINK frames -/

/-- A good frame that arrives in SEEK or UP goes to its block (R103). -/
theorem dispatchGood_of_arriving {f : Frame} {handle : State → State} {s : State} (ha : Arriving s)
    (hwf : f.wellFormed = true) (hs : dispatching s.session.state = true) :
    dispatchGood f handle s = .next (handle s) := by
  obtain ⟨hrun, hgood, haligned⟩ := ha
  rw [dispatchGood, if_pos hwf, working_of_running _ s hrun, dispatch_empty _ _ s hgood haligned hs]

theorem exec_linkReceived {s : State} (f : LinkFrame) (ha : Arriving s) (hrole : s.part.role = .primary)
    (hup : s.session.state = .up) : exec (.linkReceived f) s = .next
      (if f.reject then peerReject s else if linkInRange f s.journal then takeLink f s else count .rxFormatErrors s) := by
  refine (dispatchGood_of_arriving (f := .link f) ha rfl (by simp [dispatching, hup])).trans ?_
  rw [receiveLink, if_pos ⟨hrole, hup⟩]

/-- A part whose peer has set a limit (R133). -/
abbrev limited (l : Seq) (s : State) : State := s.setSender { s.sender with peerLimit := l }

theorem takeLink_eq (f : LinkFrame) (s : State) : takeLink f s =
    if f.nak then count .naksReceived (requestRewind f.ack (release f.ack (limited f.limit s)))
    else release f.ack (limited f.limit s) := rfl

/-- The journal after the release of a LINK frame in range (R135). -/
theorem release_journal_of_ack {s : State} {k b : Nat} (h : Shape s.journal k) (hb : b ≤ k) {n : Seq}
    (hn : n = oldestSeq s.journal + BitVec.ofNat 12 b) :
    s.journal.gone n = s.journal.entries.filter (fun e => seqPrecedes e.seq n) ∧
      s.journal.afterRelease n =
        { s.journal with entries := s.journal.entries.filter (fun e => !seqPrecedes e.seq n) } ∧
      Shape (s.journal.afterRelease n) (k - b) ∧ oldestSeq (s.journal.afterRelease n) = n := by
  have hle := h.le
  have hprec : ∀ e ∈ s.journal.entries, releasable n e = seqPrecedes e.seq n := fun e he =>
    h.releasable_eq_precedes hb hn he
  obtain ⟨hgone, hkept⟩ := h.gone_eq_filter (by omega) hn
  obtain ⟨hafter, hshape⟩ := h.afterRelease n
  rw [h.gone_length_of_le hb hn] at hafter hshape
  have hentries : (s.journal.afterRelease n).entries = s.journal.entries.filter (fun e => !seqPrecedes e.seq n) :=
    hkept.trans (List.filter_congr fun e he => by rw [hprec e he])
  refine ⟨hgone.trans (List.filter_congr hprec), ?_, hshape, ?_⟩
  · rw [← hentries, hafter, Nat.max_eq_left hb, ← h.point]
  · rw [hafter, hn]
    simp only [oldestSeq, List.length_drop]
    bv_omega

/-- Beside the journal and the counters a LINK frame in range leaves what its release leaves (R135). -/
theorem takeLink_blocks (f : LinkFrame) (s : State) :
    (takeLink f s).sender = (release f.ack (limited f.limit s)).sender ∧
    (takeLink f s).hold = (release f.ack (limited f.limit s)).hold ∧
    (takeLink f s).host = (release f.ack (limited f.limit s)).host ∧
    (takeLink f s).session = (release f.ack (limited f.limit s)).session ∧
    (takeLink f s).capture = (release f.ack (limited f.limit s)).capture := by
  rw [takeLink_eq]
  split <;> simp

/-- Settles O37: the release, then with NAK the rewind to the oldest entry that is left. -/
theorem linkFrameTaken : Obligations.LinkFrameTaken := by
  intro s f ha hrole hup hreject hsound
  obtain ⟨k, h⟩ := (journalSound_iff s).mp hsound
  rw [exec_linkReceived f ha hrole hup, hreject, if_neg Bool.false_ne_true]
  refine ⟨fun hout => ?out, fun gone kept hack hlimit hgone hkept => ?within⟩
  case out =>
    have hrange : linkInRange f s.journal = false := by
      rw [linkInRange, Bool.and_eq_false_iff, decide_eq_false_iff_not, not_le]
      exact hout
    rw [hrange, if_neg Bool.false_ne_true]
  case within =>
    have hrange : linkInRange f s.journal = true := by
      rw [linkInRange, Bool.and_eq_true, decide_eq_true_eq]
      exact ⟨hack, hlimit⟩
    obtain ⟨b, hb, hn⟩ := index_up_to_sendPoint h.shape hack
    obtain ⟨hgone', hafter, hshape, hold⟩ := release_journal_of_ack (s := limited f.limit s) h.shape hb hn
    replace hgone' := hgone'.trans hgone.symm
    have hjournal : (release f.ack (limited f.limit s)).journal = { s.journal with entries := kept } := by
      rw [hkept]
      exact (Shape.release_journal (s := limited f.limit s) h.shape f.ack).trans hafter
    have hhands : gone ≠ [] → ReleaseHandsOn gone kept (limited f.limit s) (release f.ack (limited f.limit s)) := fun hne => by
      have hhands := release_handsOn (n := f.ack) (s := limited f.limit s) (by rw [hgone']; exact hne)
      rw [hgone', hafter] at hhands
      rw [hkept]
      exact hhands
    have hnone : gone = [] → release f.ack (limited f.limit s) = limited f.limit s := fun hne =>
      release_of_nothing_gone (by rw [hgone']; exact hne)
    obtain ⟨hsender, hhold, hhost, hsession, hcapture⟩ := takeLink_blocks f s
    refine ⟨takeLink f s, by rw [hrange, if_pos rfl], ?_, ?_, fun hnak => ?_, fun hnak => ⟨?_, fun hd => ?_, fun hd => ?_⟩,
      fun hne => ?_, fun hne => ?_⟩
    · apply state_ext <;> simp
    · rw [hsender]
      by_cases hne : gone = []
      · rw [hnone hne]
        rfl
      · rw [(hhands hne).sender]
        rfl
    · rw [takeLink_eq, if_neg (by simp [hnak]), hjournal]
      exact ⟨by simp, rfl⟩
    · rw [takeLink_eq, if_pos hnak]
      simp [count]
    · rw [takeLink_eq, if_pos hnak, requestRewind_sending _ (by simpa [sendingData] using hd)]
      exact congrArg (fun j : Journal => { j with heldRewind := some f.ack }) hjournal
    · have hreleased : (release f.ack (limited f.limit s)).journal = (limited f.limit s).journal.afterRelease f.ack :=
        Shape.release_journal (s := limited f.limit s) h.shape f.ack
      have hrewound := Shape.requestRewind_oldest (s := release f.ack (limited f.limit s)) (m := f.ack)
        (by rw [hreleased]; exact hshape) (by rw [hreleased]; exact hold.symm) (by simpa [sendingData] using hd)
      rw [hjournal] at hrewound
      rw [takeLink_eq, if_pos hnak]
      exact hrewound
    · rw [hsender, hhold, hhost, hsession, hcapture, hnone hne]
      exact ⟨rfl, rfl, rfl, rfl, rfl⟩
    · obtain ⟨hsender', hstalled, hheld, hfree, hsession'⟩ := hhands hne
      rw [hsender, hhold, hhost, hsession, hcapture, hsender', hsession']
      refine ⟨rfl, rfl, hstalled, hheld, hfree, fun hs => ?_, fun hs => ?_⟩
      · rw [if_pos hs]
        rfl
      · rw [hs]
        rfl

/-! ## Rejections -/

/-- An entry to FAULT from UP takes the departure effects first (R121, R125). -/
theorem enterFault_from_up (c : FaultCause) {s : State} (hrun : s.inReset = false) (hup : s.session.state = .up) :
    (enterFault c s).session = { s.session with
      state := .fault, faultCause := c, lastLoss := .fault, helloTimer := none } ∧
    flagSet .linkFault (enterFault c s) = true ∧ flagSet .linkLost (enterFault c s) = true ∧
    (enterFault c s).counters = (count .sessionLosses s).counters ∧ Aborted s (enterFault c s) ∧
    (enterFault c s).tx.byeDue = some .fault ∧ (enterFault c s).tx.helloDue = false := by
  have hlost : flagSet .linkLost (leaveUp .fault s) = true := by
    rw [flagSet_of_events (s := raise .linkLost s) (by simp), flagSet_raise_same]
  rw [enterFault_of_up c s hup]
  refine ⟨by simp, flagSet_raise_same _ _, flagSet_raise_of_set (s := (leaveUp .fault s).setSession _) _ hlost, by simp,
    aborted_of_tx (by simpa using hrun) (by simp) (by simp), by simp, by simp⟩

/-- Settles O38: the restart below the limit, the fault at it. -/
theorem peerRejects : Obligations.PeerRejects := by
  intro s f ha hrole hup hreject
  have ⟨hrun, _, _⟩ := ha
  rw [exec_linkReceived f ha hrole hup, hreject, if_pos rfl]
  refine ⟨fun hlt => ?below, fun heq => ?limit⟩
  case below =>
    refine ⟨_, congrArg _ (if_pos hlt), restartedStream .peerReject _, 
      restartedSession .peerReject (s := s.setSession { s.session with rejectRestarts := s.session.rejectRestarts + 1 }) hrun,
      ?_, ?_⟩
    · simp
    · simp
  case limit =>
    obtain ⟨hsession, hfault, hlost, hcounters, haborted, hbye, hhello⟩ := enterFault_from_up .rejectLimit hrun hup
    refine ⟨_, congrArg _ (if_neg (by simp [heq, Config.rejectLimit])), hsession, hfault, hlost, hcounters, haborted, hbye,
      hhello, ?_, fun hnone => ?_, fun m hsend hm => ?_, ?_⟩
    · simp
    · rw [enterFault_of_up _ s hup]
      simp [abortFrame_journal_of_none s hnone]
    · refine heldRewindTaken_spec hm ?_
      rw [enterFault_of_up _ s hup]
      simp [abortFrame_journal_taken hsend]
    · rw [enterFault_of_up _ s hup]
      apply state_ext <;> simp

/-! ## The ack timer and the losses -/

theorem exec_byeReceived {s : State} (r : ByeReason) (ha : Arriving s)
    (hs : s.session.state = .seek ∨ s.session.state = .up) : exec (.byeReceived r) s = .next (receiveBye s) :=
  dispatchGood_of_arriving (f := .bye r) ha rfl (dispatching_of_seek_or_up _ hs)

/-- Settles O39: every loss is `loseSession`, and below the limit the rewind goes to the oldest entry. -/
theorem ackTimerAndLosses : Obligations.AckTimerAndLosses := by
  refine ⟨fun s hrun => ⟨fun hnone => ?stopped, fun hsome hlt hsound => ?rewind, fun hsome hge hup => ?retries⟩,
    fun s r ha => ⟨fun hup => ?bye, fun hseek => ?seek⟩, fun s hrun => ⟨fun hsome => ?silence, fun hnone => ?silent⟩⟩
  case stopped => exact (working_of_running ackExpiry s hrun).trans (by simp [ackExpiry, hnone])
  case rewind =>
    obtain ⟨k, h⟩ := (journalSound_iff s).mp hsound
    have hexpiry : ackExpiry s = count .retransmitTimeouts (
        (requestRewind s.journal.oldest (s.setSender { s.sender with retryCount := s.sender.retryCount + 1 })).setSender
          { s.sender with retryCount := s.sender.retryCount + 1, ackTimer := some (10 * s.params.ackTimeout) }) := by
      simp only [ackExpiry, Option.isSome_iff_ne_none.mpr hsome, if_true]
      rw [if_pos (by exact hlt)]
      simp
    refine ⟨(requestRewind s.journal.oldest (s.setSender { s.sender with
      retryCount := s.sender.retryCount + 1 })).journal, ?_, fun hd => ?_, fun hd => ?_⟩
    · refine (working_of_running ackExpiry s hrun).trans (congrArg _ (hexpiry.trans ?_))
      apply state_ext <;> simp [count]
    · rw [requestRewind_sending _ (by simpa [sendingData] using hd)]
      rfl
    · exact Shape.requestRewind_oldest (s := s.setSender { s.sender with retryCount := s.sender.retryCount + 1 })
        h.shape h.shape.oldest hd
  case retries =>
    have hexpiry : ackExpiry s = loseSession .retryLimit (s.setSender
        { s.sender with retryCount := s.sender.retryCount + 1 }) := by
      simp only [ackExpiry, Option.isSome_iff_ne_none.mpr hsome, if_true]
      exact if_neg (by simpa using hge)
    exact ⟨_, (working_of_running ackExpiry s hrun).trans (congrArg _ hexpiry), lostSession .retryLimit hrun⟩
  case bye => exact ⟨_, (exec_byeReceived r ha (.inr hup)).trans (congrArg _ (if_pos hup)), lostSession .peerBye ha.1⟩
  case seek => exact (exec_byeReceived r ha (.inl hseek)).trans (congrArg _ (if_neg (by simp [hseek])))
  case silence =>
    have hexpiry : silenceExpiry s = loseSession .silence s := if_pos (Option.isSome_iff_ne_none.mpr hsome)
    exact ⟨_, (working_of_running silenceExpiry s hrun).trans (congrArg _ hexpiry), lostSession .silence hrun⟩
  case silent => exact (working_of_running silenceExpiry s hrun).trans (by simp [silenceExpiry, hnone])

end Sys2Proof.Proofs
end

section
/-! No block that handles a received frame looks at the receiver's alignment or at the frames that wait: each handler
commutes with a change of them. -/

namespace Sys2Proof.Proofs

open Sys2Proof.Machine

/-- The part with another alignment and other received frames waiting (R103, R196). -/
def onLane (a : Bool) (good : List Frame) (s : State) : State := s.setRx { s.rx with aligned := a, good := good }

section
variable (a : Bool) (good : List Frame) (s : State)

@[simp] theorem onLane_frame :
    (onLane a good s).inReset = s.inReset ∧ (onLane a good s).mgmt = s.mgmt ∧ (onLane a good s).events = s.events ∧
    (onLane a good s).counters = s.counters ∧ (onLane a good s).params = s.params ∧
    (onLane a good s).table = s.table ∧ (onLane a good s).part = s.part ∧ (onLane a good s).host = s.host ∧
    (onLane a good s).port = s.port ∧ (onLane a good s).mem = s.mem ∧ (onLane a good s).capture = s.capture ∧
    (onLane a good s).hold = s.hold ∧ (onLane a good s).journal = s.journal ∧ (onLane a good s).copy = s.copy ∧
    (onLane a good s).session = s.session ∧ (onLane a good s).tx = s.tx ∧ (onLane a good s).sender = s.sender ∧
    (onLane a good s).acker = s.acker ∧ (onLane a good s).applyq = s.applyq ∧ (onLane a good s).pending = s.pending := by
  and_intros <;> rfl

@[simp] theorem onLane_rx : (onLane a good s).rx = { s.rx with aligned := a, good := good } := rfl

/-! ## Updates of other blocks, and of the silence timer -/

@[simp] theorem onLane_setEvents (x : EventUnit) :
    (onLane a good s).setEvents x = onLane a good (s.setEvents x) := rfl
@[simp] theorem onLane_setCounters (x : Vector Nat 15) :
    (onLane a good s).setCounters x = onLane a good (s.setCounters x) := rfl
@[simp] theorem onLane_setHost (x : HostPort) :
    (onLane a good s).setHost x = onLane a good (s.setHost x) := rfl
@[simp] theorem onLane_setCapture (x : CaptureUnit) :
    (onLane a good s).setCapture x = onLane a good (s.setCapture x) := rfl
@[simp] theorem onLane_setHold (x : HoldUnit) :
    (onLane a good s).setHold x = onLane a good (s.setHold x) := rfl
@[simp] theorem onLane_setJournal (x : Journal) :
    (onLane a good s).setJournal x = onLane a good (s.setJournal x) := rfl
@[simp] theorem onLane_setCopy (x : CopyUnit) :
    (onLane a good s).setCopy x = onLane a good (s.setCopy x) := rfl
@[simp] theorem onLane_setSession (x : SessionUnit) :
    (onLane a good s).setSession x = onLane a good (s.setSession x) := rfl
@[simp] theorem onLane_setTx (x : Transmitter) :
    (onLane a good s).setTx x = onLane a good (s.setTx x) := rfl
@[simp] theorem onLane_setSender (x : SendDelivery) :
    (onLane a good s).setSender x = onLane a good (s.setSender x) := rfl
@[simp] theorem onLane_setAcker (x : AckDelivery) :
    (onLane a good s).setAcker x = onLane a good (s.setAcker x) := rfl
@[simp] theorem onLane_setApplyq (x : ApplyUnit) :
    (onLane a good s).setApplyq x = onLane a good (s.setApplyq x) := rfl
@[simp] theorem onLane_setRx (f : Framing) (x : Timer) :
    (onLane a good s).setRx { aligned := a, framing := f, silenceTimer := x, good := good } =
      onLane a good (s.setRx { s.rx with framing := f, silenceTimer := x }) := rfl

/-! ## Shared operations -/

@[simp] theorem raise_onLane (e : Event) : raise e (onLane a good s) = onLane a good (raise e s) := rfl
@[simp] theorem count_onLane (c : Counter) : count c (onLane a good s) = onLane a good (count c s) := rfl
@[simp] theorem finishHost_onLane (c : Completion) : finishHost c (onLane a good s) = onLane a good (finishHost c s) := rfl
@[simp] theorem askHello_onLane : askHello (onLane a good s) = onLane a good (askHello s) := rfl
@[simp] theorem startHelloTimer_onLane : startHelloTimer (onLane a good s) = onLane a good (startHelloTimer s) := rfl
@[simp] theorem enterSeek_onLane : enterSeek (onLane a good s) = onLane a good (enterSeek s) := rfl
@[simp] theorem sealOpen_onLane : sealOpen (onLane a good s) = onLane a good (sealOpen s) := rfl
@[simp] theorem pendLink_onLane : pendLink (onLane a good s) = onLane a good (pendLink s) := rfl
@[simp] theorem rearmNak_onLane : rearmNak (onLane a good s) = onLane a good (rearmNak s) := rfl
@[simp] theorem pushEntry_onLane (c : Content) (st : EntryState) : pushEntry c st (onLane a good s) = onLane a good (pushEntry c st s) := rfl
@[simp] theorem copyMayRun_onLane : copyMayRun (onLane a good s) = copyMayRun s := rfl
@[simp] theorem syncedDue_onLane : syncedDue (onLane a good s) = syncedDue s := rfl
@[simp] theorem sendingData_onLane : sendingData (onLane a good s) = sendingData s := rfl
@[simp] theorem restartGeneration_onLane (r : RestartReason) :
    restartGeneration r (onLane a good s) = restartGeneration r s := rfl
@[simp] theorem resumable_onLane (f : HelloFrame) : resumable f (onLane a good s) = resumable f s := rfl
@[simp] theorem completeHeld_onLane : completeHeld (onLane a good s) = onLane a good (completeHeld s) := by
  simp only [completeHeld, onLane_frame]
  split <;> simp
@[simp] theorem endHold_onLane (o : HoldOutcome) : endHold o (onLane a good s) = onLane a good (endHold o s) := by
  simp [endHold]
@[simp] theorem endStall_onLane : endStall (onLane a good s) = onLane a good (endStall s) := by
  simp only [endStall, onLane_frame]
  split <;> simp
@[simp] theorem withdrawCopy_onLane : withdrawCopy (onLane a good s) = onLane a good (withdrawCopy s) := by
  simp only [withdrawCopy, onLane_frame, copyMayRun_onLane]
  split
  · by_cases h : copyMayRun s = true <;> simp [h]
  · rfl
@[simp] theorem append_onLane (c : Content) : append c (onLane a good s) = onLane a good (append c s) := by
  simp [append]
@[simp] theorem rewind_onLane (m : Seq) : rewind m (onLane a good s) = onLane a good (rewind m s) := by
  by_cases h : m = s.journal.sendPoint <;> simp [rewind, h]
@[simp] theorem takeHeldRewind_onLane : takeHeldRewind (onLane a good s) = onLane a good (takeHeldRewind s) := by
  simp only [takeHeldRewind_eq, onLane_frame, onLane_setJournal]
@[simp] theorem requestRewind_onLane (m : Seq) : requestRewind m (onLane a good s) = onLane a good (requestRewind m s) := by
  cases h : sendingData s <;> simp [requestRewind, h]
@[simp] theorem discardJournal_onLane : discardJournal (onLane a good s) = onLane a good (discardJournal s) := by
  cases h : s.journal.entries.any (fun e => e.held) <;> simp [discardJournal, h]
@[simp] theorem abortFrame_onLane : abortFrame (onLane a good s) = onLane a good (abortFrame s) := by
  simp only [abortFrame, onLane_frame]
  split <;> simp
@[simp] theorem release_onLane (n : Seq) : release n (onLane a good s) = onLane a good (release n s) := by
  by_cases h : s.journal.gone n = []
  · simp [release, h]
  · cases hheld : (s.journal.gone n).any (fun e => e.held) <;>
      cases hsynced : (s.journal.gone n).any Entry.isSynced <;> simp [release, h, hheld, hsynced]
@[simp] theorem leaveUp_onLane (r : LossReason) : leaveUp r (onLane a good s) = onLane a good (leaveUp r s) := by
  simp only [leaveUp]
  simp
  split <;> simp
@[simp] theorem loseSession_onLane (r : LossReason) : loseSession r (onLane a good s) = onLane a good (loseSession r s) := by
  simp [loseSession]
@[simp] theorem enterFault_onLane (c : FaultCause) : enterFault c (onLane a good s) = onLane a good (enterFault c s) := by
  by_cases h : s.session.state = .up <;> simp [enterFault, h]
@[simp] theorem offerSynced_onLane : offerSynced (onLane a good s) = onLane a good (offerSynced s) := by
  unfold offerSynced
  rw [syncedDue_onLane, show (onLane a good s).journal = s.journal from rfl]
  split
  · simp
  · rfl
@[simp] theorem restartSession_onLane : restartSession (onLane a good s) = onLane a good (restartSession s) := by
  simp only [restartSession, onLane_frame]
  split <;> simp
@[simp] theorem restart_onLane (r : RestartReason) : restart r (onLane a good s) = onLane a good (restart r s) := by
  simp [restart]

/-! ## The handlers of received frames -/

@[simp] theorem place_onLane (e : Seq) : place e (onLane a good s) = onLane a good (place e s) := by
  simp [place]
@[simp] theorem enterUp_onLane (f : HelloFrame) : enterUp f (onLane a good s) = onLane a good (enterUp f s) := by
  simp only [enterUp]
  cases hrole : s.part.role <;> simp [hrole, enterUpPrimary, enterUpSecondary]
@[simp] theorem acceptHello_onLane (f : HelloFrame) : acceptHello f (onLane a good s) = onLane a good (acceptHello f s) := by
  cases hseen : s.session.seen <;> cases hf : f.seen <;> simp [acceptHello, hseen, hf]
@[simp] theorem adopt_onLane (f : HelloFrame) : adopt f (onLane a good s) = onLane a good (adopt f s) := rfl
@[simp] theorem answerHello_onLane : answerHello (onLane a good s) = onLane a good (answerHello s) := by
  cases h : s.session.helloTimer.isSome <;> simp [answerHello, h]
@[simp] theorem judgeHello_onLane (f : HelloFrame) : judgeHello f (onLane a good s) = onLane a good (judgeHello f s) := by
  cases hr : resumable f s with
  | true => simp [judgeHello, hr]
  | false =>
    cases hrole : s.part.role with
    | primary => cases hj : s.journal.fresh <;> simp [judgeHello, hr, hrole, hj]
    | secondary => cases hf : f.fresh <;> simp [judgeHello, hr, hrole, hf]
    | detached => simp [judgeHello, hr, hrole]
@[simp] theorem receiveHello_onLane (f : HelloFrame) : receiveHello f (onLane a good s) = onLane a good (receiveHello f s) := by
  simp only [receiveHello, onLane_frame, resumable_onLane, enterFault_onLane, answerHello_onLane, loseSession_onLane,
    judgeHello_onLane]
  (repeat' split) <;> rfl
@[simp] theorem receiveBye_onLane : receiveBye (onLane a good s) = onLane a good (receiveBye s) := by
  by_cases h : s.session.state = .up <;> simp [receiveBye, h]
@[simp] theorem peerReject_onLane : peerReject (onLane a good s) = onLane a good (peerReject s) := by
  simp only [peerReject, onLane_frame]
  split <;> simp
@[simp] theorem takeLink_onLane (f : LinkFrame) : takeLink f (onLane a good s) = onLane a good (takeLink f s) := by
  cases h : f.nak <;> simp [takeLink, h]
@[simp] theorem receiveLink_onLane (f : LinkFrame) : receiveLink f (onLane a good s) = onLane a good (receiveLink f s) := by
  simp only [receiveLink, onLane_frame]
  (repeat' split) <;> simp
@[simp] theorem acceptData_onLane (f : DataFrame) : acceptData f (onLane a good s) = onLane a good (acceptData f s) := rfl
@[simp] theorem askNak_onLane : askNak (onLane a good s) = onLane a good (askNak s) := by
  cases h : s.acker.nakArmed <;> simp [askNak, h]
@[simp] theorem receiveData_onLane (f : DataFrame) : receiveData f (onLane a good s) = onLane a good (receiveData f s) := by
  simp only [receiveData, onLane_frame]
  (repeat' split) <;> simp

end

end Sys2Proof.Proofs
end

section
/-! The receiver: symbols by the framing state, alignment, and the hand-over of received frames (O40). -/

namespace Sys2Proof.Proofs

open Sys2Proof.Machine

/-! ## The block of a received frame -/

/-- What the block a frame goes to does with it (R103). -/
def handler : Frame → State → State
  | .data f => receiveData f
  | .link f => receiveLink f
  | .hello f => receiveHello f
  | .bye _ => receiveBye

theorem exec_received (f : Frame) (s : State) : exec (received f) s = dispatchGood f (handler f) s := by
  cases f <;> rfl

@[simp] theorem handler_onLane (f : Frame) (a : Bool) (good : List Frame) (s : State) :
    handler f (onLane a good s) = onLane a good (handler f s) := by
  cases f <;> simp [handler]

theorem exec_received_of_running {f : Frame} {s : State} (hwf : f.wellFormed = true) (hrun : s.inReset = false) :
    exec (received f) s = .next (dispatch f (handler f) s) := by
  rw [exec_received, dispatchGood, if_pos hwf, working_of_running _ s hrun]

theorem not_dispatching {st : SessionState} (hseek : st ≠ .seek) (hup : st ≠ .up) : dispatching st = false := by
  cases st <;> simp_all [dispatching]

/-! ## Symbols -/

theorem exec_symbolReceived {s : State} (c : Character) (hrun : s.inReset = false) :
    exec (.symbolReceived c) s = .next (receiveSymbol (decodeCharacter c) s) :=
  working_of_running (receiveSymbol (decodeCharacter c)) s hrun

/-- A count and a change of the receiver do not meet. -/
theorem count_setRx (c : Counter) (x : Receiver) (s : State) : (count c s).setRx x = count c (s.setRx x) := rfl

theorem dispatching_iff (st : SessionState) : dispatching st = true ↔ st = .seek ∨ st = .up := by
  cases st <;> simp [dispatching]

/-- Settles O40: the symbols case by case, and the received frames by their place in the list. -/
theorem symbolTaken : Obligations.SymbolTaken := by
  refine ⟨fun s c hrun hdeaf => ?deaf, fun s u c hrun haligned hoff hu => ?symbols, fun s n seen hrun => ?align,
    fun s f g rest hrun hwf hgood => ⟨fun hne => ?other, fun heq hstate => ?handed, fun heq hseek hup => ?dropped⟩,
    fun s f hrun hwf hgood hnot => ?nothing⟩
  case deaf =>
    rw [exec_symbolReceived c hrun]
    rcases hdeaf with h | h <;> simp [receiveSymbol, h]
  case symbols =>
    have hsilence : restartSilence s = u := by
      rw [hu]
      cases htimer : s.rx.silenceTimer <;> simp [restartSilence, htimer]
    have hframing : u.rx.framing = s.rx.framing ∧ u.part = s.part ∧ u.session = s.session ∧ u.rx.good = s.rx.good := by
      rw [hu]
      split <;> simp
    obtain ⟨hframing, hpart, hsession, hgood⟩ := hframing
    have hexec : exec (.symbolReceived c) s = .next (frameSymbol (decodeCharacter c) u) := by
      rw [exec_symbolReceived c hrun, receiveSymbol, if_neg (by simp [haligned]), if_neg hoff, hsilence]
    rw [hexec]
    refine ⟨fun hhunt hstart => ?_, fun hhunt hnot => ?_, fun buffer hframe => ⟨fun hs => ?_, fun b hs hlt => ?_,
      fun b hs hge => ?_, fun hs => ?_, fun hs => ?_, fun hs => ⟨fun hcheck => ?_, fun hcrc hbad => ?_, fun f hgoodFrame => ?_⟩⟩⟩
    · simp [frameSymbol, hframing, hhunt, hstart, setFraming]
    · unfold frameSymbol
      rw [hframing, hhunt]
      split <;> simp_all
    · simp [frameSymbol, hframing, hframe, hs, setFraming, count_setRx]
    · simp [frameSymbol, hframing, hframe, hs, setFraming, Config.frameBytes, hlt]
    · simp [frameSymbol, hframing, hframe, hs, setFraming, count_setRx, Config.frameBytes,
        Nat.not_lt.mpr hge]
    · simp [frameSymbol, hframing, hframe, hs, setFraming, count_setRx]
    · rcases hs with hs | hs <;> simp [frameSymbol, hframing, hframe, hs, setFraming, count_setRx]
    · simp [frameSymbol, hframing, hframe, hs, setFraming, judgeFrame, hpart, hcheck]
    · have hjudge : judgeFrame buffer (setFraming .hunt u) = count .rxFormatErrors (setFraming .hunt u) := by
        have hrole : (setFraming .hunt u).part.role = s.part.role := congrArg PartRole.role hpart
        rw [judgeFrame, hrole]
        split <;> simp_all
      simp only [frameSymbol, hframing, hframe, hs, hjudge]
      rfl
    · have hrole : (setFraming .hunt u).part.role = s.part.role := congrArg PartRole.role hpart
      simp only [frameSymbol, hframing, hframe, hs, judgeFrame, hrole, hgoodFrame]
      by_cases hd : s.session.state = .seek ∨ s.session.state = .up
      · simp [setFraming, hsession, (dispatching_iff _).mpr hd, hd, hgood]
      · have hnot := mt (dispatching_iff _).mp hd
        simp [setFraming, hsession, hnot, hd, hgood]
  case align =>
    have hexec : ∀ cause, exec (.characterAlignment cause) s =
        .next (if cause.aligns then s.setRx { s.rx with aligned := true } else s) := fun cause =>
      working_of_running (fun s => if cause.aligns then s.setRx { s.rx with aligned := true } else s) s hrun
    refine ⟨fun hn => ?_, fun hn => ?_, fun ⟨hlength, hall, hone⟩ => ?_⟩
    · rw [hexec, if_pos (show (AlignCause.ones n).aligns = true from decide_eq_true hn)]
    · rw [hexec, if_neg (by simpa [AlignCause.aligns] using hn)]
    · rw [hexec, if_pos]
      rw [AlignCause.aligns, Bool.and_eq_true, Bool.and_eq_true, decide_eq_true_eq, List.all_eq_true, List.any_eq_true]
      exact ⟨⟨hlength, fun c hc => by simpa [alignCharacter] using hall c hc⟩, hone⟩
  case other => rw [exec_received_of_running hwf hrun, dispatch_other f g _ s rest hgood hne]
  case handed =>
    subst heq
    have hd := (dispatching_iff _).mpr hstate
    refine ⟨handler g (onLane true [] s), ?_, ?_⟩
    · exact (exec_received_of_running (s := onLane true [] s) hwf hrun).trans
        (congrArg _ (dispatch_empty g (handler g) (onLane true [] s) rfl rfl hd))
    · rw [exec_received_of_running hwf hrun, dispatch_oldest _ _ s rest hgood, hd, if_pos rfl]
      have hrest : s.setRx { s.rx with good := rest } = onLane s.rx.aligned rest s := rfl
      rw [hrest, handler_onLane, handler_onLane]
      rfl
  case dropped =>
    subst heq
    rw [exec_received_of_running hwf hrun, dispatch_oldest _ _ s rest hgood, not_dispatching hseek hup]
    simp
  case nothing =>
    rw [exec_received_of_running hwf hrun, dispatch_nothing f _ s hgood ?_]
    exact hnot.imp_right fun ⟨hseek, hup⟩ => not_dispatching hseek hup

end Sys2Proof.Proofs
end

section
/-! The HELLO in SEEK (O41), entry to UP (O42), the HELLO in UP (O43), and DATA frames at a secondary (O44). -/

namespace Sys2Proof.Proofs

open Sys2Proof.Machine

/-! ## DATA frames -/

theorem exec_dataReceived {s : State} {f : DataFrame} (ha : Arriving s) (hwf : f.content.wellFormed = true)
    (hs : s.session.state = .seek ∨ s.session.state = .up) : exec (.dataReceived f) s = .next (receiveData f s) :=
  dispatchGood_of_arriving (f := .data f) ha hwf (dispatching_of_seek_or_up _ hs)

theorem not_seqPrecedes_self (q : Seq) : seqPrecedes q q = false := by simp [seqPrecedes]

/-- An accepted entry takes its slot: limit stays (R148). -/
theorem limit_of_accepted (f : DataFrame) {s : State} (h : s.applyq.count < 32) :
    (acceptData f s).applyq.limit = s.applyq.limit := by
  have hcount : (acceptData f s).applyq.count = s.applyq.count + 1 := by
    have hengine : (acceptData f s).applyq.engine = s.applyq.engine := rfl
    have hqueue : (acceptData f s).applyq.queue = s.applyq.queue ++ [f] := rfl
    rw [ApplyUnit.count, hengine, hqueue, List.length_append, List.length_singleton, ApplyUnit.count]
    omega
  have hexpected : (acceptData f s).applyq.expected = s.applyq.expected + 1#12 := rfl
  rw [ApplyUnit.limit, ApplyUnit.limit, hcount, hexpected, Config.applySlots]
  bv_omega

/-- Settles O44: the three places of the seq. -/
theorem dataFrameTaken : Obligations.DataFrameTaken := by
  intro s f ha hrole hwf
  have hup : s.session.state = .up → exec (.dataReceived f) s = .next
      (if f.seq = s.applyq.expected then
        if s.applyq.count < Config.applySlots then acceptData f s else count .rxFormatErrors s
      else if seqPrecedes f.seq s.applyq.expected then pendLink (count .rxDuplicates s)
      else askNak (count .rxGaps s)) := fun hstate => by
    rw [exec_dataReceived ha hwf (.inr hstate), receiveData, if_pos ⟨hrole, hstate⟩]
  refine ⟨fun hseek => ?seek, fun hstate hseq hslot => ?accepted, fun hstate hseq hfull => ?full,
    fun hstate hbefore => ?duplicate, fun hstate hne hnot => ⟨fun harmed => ?asked, fun harmed => ?unasked⟩⟩
  case seek => rw [exec_dataReceived ha hwf (.inl hseek), receiveData, if_neg (by simp [hseek])]
  case accepted =>
    refine ⟨acceptData f s, ?_, rfl, limit_of_accepted f hslot⟩
    rw [hup hstate, if_pos hseq, if_pos (by exact hslot)]
  case full => rw [hup hstate, if_pos hseq, if_neg (by simpa [Config.applySlots] using hfull)]
  case duplicate =>
    have hne : f.seq ≠ s.applyq.expected := fun heq => by simp [heq, not_seqPrecedes_self] at hbefore
    rw [hup hstate, if_neg hne, if_pos hbefore]
    rfl
  case asked =>
    rw [hup hstate, if_neg hne, if_neg (by simp [hnot]), askNak, if_pos (by exact harmed)]
    rfl
  case unasked =>
    rw [hup hstate, if_neg hne, if_neg (by simp [hnot]), askNak, if_neg (by simp [harmed])]

/-! ## HELLOs: acceptance -/

/-- Without a role in common, a HELLO is accepted without adoption exactly when the part can resume (R116, R117). -/
theorem resumes_iff {f : HelloFrame} {s : State} (hdetached : f.role ≠ .detached) (hrole : f.role ≠ s.part.role) :
    Resumes f s ↔ resumable f s = true := by
  unfold resumable
  cases hpart : s.part.role <;> cases hf : f.role <;> simp_all [Resumes]

theorem roles_of_resumes {f : HelloFrame} {s : State} (h : Resumes f s) :
    f.role ≠ .detached ∧ f.role ≠ s.part.role := by
  obtain ⟨hpart, hf, _⟩ | ⟨hpart, hf, _⟩ := h <;> simp [hpart, hf]

theorem exec_helloReceived {s : State} {f : HelloFrame} (ha : Arriving s) (hdetached : f.role ≠ .detached)
    (hs : s.session.state = .seek ∨ s.session.state = .up) : exec (.helloReceived f) s = .next (receiveHello f s) :=
  exec_helloReceived_of_arriving f s ha (by simpa [Frame.wellFormed] using hdetached) (dispatching_of_seek_or_up _ hs)

theorem receiveHello_of_own_role {s : State} {f : HelloFrame} (hrev : f.revision = 0x01#8)
    (hrole : f.role = s.part.role) : receiveHello f s = enterFault .role s := by
  rw [receiveHello, if_neg (by simp [hrev, Config.linkRevision]), if_pos hrole]

theorem receiveHello_of_seek {s : State} {f : HelloFrame} (hrev : f.revision = 0x01#8) (hrole : f.role ≠ s.part.role)
    (hseek : s.session.state = .seek) : receiveHello f s = judgeHello f s := by
  rw [receiveHello, if_neg (by simp [hrev, Config.linkRevision]), if_neg hrole, if_neg (by simp [hseek])]

theorem receiveHello_of_up {s : State} {f : HelloFrame} (hrev : f.revision = 0x01#8) (hrole : f.role ≠ s.part.role)
    (hup : s.session.state = .up) : receiveHello f s =
      if f.seen = true ∧ resumable f s = true then answerHello s else judgeHello f (loseSession .peerHello s) := by
  rw [receiveHello, if_neg (by simp [hrev, Config.linkRevision]), if_neg hrole, if_pos hup]

theorem judgeHello_of_resumable {s : State} {f : HelloFrame} (h : resumable f s = true) :
    judgeHello f s = acceptHello f s := if_pos h

/-- A HELLO that cannot be resumed: a fresh primary waits, any other primary restarts, a secondary adopts a fresh
stream (R116, R117). -/
theorem judgeHello_of_not_resumable {s : State} {f : HelloFrame} (h : resumable f s = false) :
    judgeHello f s =
      match s.part.role with
      | .primary => if s.journal.fresh then s else restart .join s
      | .secondary => if f.fresh then acceptHello f (adopt f s) else s
      | .detached => s := if_neg (by simp [h])

theorem resumable_of_primary {s : State} {f : HelloFrame} (h : s.part.role = .primary) : resumable f s =
    (f.generation == s.journal.generation && seqLiesIn f.next s.journal.oldest s.journal.nextSeq) := by
  simp [resumable, h]

theorem resumable_of_secondary {s : State} {f : HelloFrame} (h : s.part.role = .secondary) : resumable f s =
    (f.generation == s.applyq.streamGeneration && seqLiesIn s.applyq.expected f.oldest f.next) := by
  simp [resumable, h]

/-- An accepted HELLO with seen 0 leaves the session in SEEK (R118). -/
theorem acceptHello_of_unseen {s : State} {f : HelloFrame} (h : f.seen = false) : acceptHello f s =
    if s.session.seen then s else startHelloTimer (askHello (s.setSession { s.session with seen := true })) := by
  simp [acceptHello, h]

/-- Settles O41: the four ways a HELLO in SEEK is judged. -/
theorem helloJudgedInSeek : Obligations.HelloJudgedInSeek := by
  intro s f ha hseek hdetached hrev
  have hexec : exec (.helloReceived f) s = .next (receiveHello f s) := exec_helloReceived ha hdetached (.inl hseek)
  rw [hexec]
  refine ⟨fun hrole => ?own, fun hpart hf hnot => ?primary, fun hpart hf hnot => ?secondary, fun hresumes hseen => ?accepted⟩
  case own =>
    rw [receiveHello_of_own_role hrev hrole, enterFault_of_not_up _ _ (by simp [hseek])]
    exact ⟨_, rfl, rfl⟩
  case primary =>
    have hresumable : resumable f s = false := by
      rw [resumable_of_primary hpart]
      rcases hnot with h | h <;> simp [h]
    rw [receiveHello_of_seek hrev (by simp [hpart, hf]) hseek, judgeHello_of_not_resumable hresumable, hpart]
    refine ⟨fun hfresh => by simp [hfresh], fun hfresh => ⟨restart .join s, by simp [hfresh], restartedStream .join s,
      restartedSession .join ha.1⟩⟩
  case secondary =>
    have hresumable : resumable f s = false := by
      rw [resumable_of_secondary hpart]
      rcases hnot with h | h <;> simp [h]
    rw [receiveHello_of_seek hrev (by simp [hpart, hf]) hseek, judgeHello_of_not_resumable hresumable, hpart]
    refine ⟨fun hfresh => by simp [hfresh], fun hfresh hunseen => ⟨acceptHello f (adopt f s), by simp [hfresh], ?_⟩⟩
    rw [acceptHello_of_unseen hunseen, show (adopt f s).session = s.session from rfl]
    cases hseen : s.session.seen with
    | true =>
      rw [if_pos rfl]
      exact ⟨by apply state_ext <;> rfl, hseek, hseen⟩
    | false =>
      rw [if_neg Bool.false_ne_true]
      exact ⟨by apply state_ext <;> rfl, hseek, rfl⟩
  case accepted =>
    obtain ⟨_, hrole⟩ := roles_of_resumes hresumes
    rw [receiveHello_of_seek hrev hrole hseek, judgeHello_of_resumable ((resumes_iff hdetached hrole).mp hresumes),
      acceptHello_of_unseen hseen]
    exact ⟨fun h => by simp [h], fun h => by rw [h]; rfl⟩

/-! ## HELLOs in UP -/

/-- An abort moves no entry, so oldest stays (R5, R17). -/
theorem oldest_heldRewindTaken (j : Journal) : (heldRewindTaken j).oldest = j.oldest := by
  have hmap : ∀ (m p : Seq) (x : Option Seq), Journal.oldest { j with
      entries := j.entries.map (Entry.rewind m), sendPoint := p, heldRewind := x } = j.oldest := fun m p x => by
    unfold Journal.oldest
    cases j.entries <;> simp
  unfold heldRewindTaken
  cases j.heldRewind with
  | none => rfl
  | some m =>
    dsimp only
    generalize (if seqPrecedes m j.oldest = true then j.oldest else m) = q
    by_cases hq : q = j.sendPoint
    · rw [if_pos hq]
      rfl
    · rw [if_neg hq]
      exact hmap q q none

theorem heldRewindTaken_numbers (j : Journal) :
    (heldRewindTaken j).generation = j.generation ∧ (heldRewindTaken j).nextSeq = j.nextSeq := by
  unfold heldRewindTaken
  dsimp only
  (repeat' split) <;> exact ⟨rfl, rfl⟩

/-- What a HELLO is tested against is the same after a loss (R121). -/
theorem resumable_loseSession (r : LossReason) (f : HelloFrame) (s : State) :
    resumable f (loseSession r s) = resumable f s := by
  have hkept : (abortFrame s).journal.oldest = s.journal.oldest ∧
      (abortFrame s).journal.generation = s.journal.generation ∧
      (abortFrame s).journal.nextSeq = s.journal.nextSeq := by
    rw [abortFrame_journal]
    split
    · exact ⟨rfl, rfl, rfl⟩
    · exact ⟨oldest_heldRewindTaken _, heldRewindTaken_numbers _⟩
  obtain ⟨hold, hgen, hnext⟩ := hkept
  have hjournal : (loseSession r s).journal = (abortFrame s).journal := by simp
  have hpart : (loseSession r s).part = s.part := by simp
  have happlyq : (loseSession r s).applyq = s.applyq := by simp
  unfold resumable
  rw [hjournal, hpart, happlyq, hold, hgen, hnext]

/-- Settles O43: an accepted HELLO with seen 1 is answered; any other is judged after the loss it causes. -/
theorem helloInUp : Obligations.HelloInUp := by
  intro s f ha hup hrev
  have hexec : f.role ≠ .detached → exec (.helloReceived f) s = .next (receiveHello f s) := fun hdetached =>
    exec_helloReceived ha hdetached (.inr hup)
  have hanswered : Resumes f s → f.seen = true → exec (.helloReceived f) s = .next (answerHello s) := fun hres hseen => by
    obtain ⟨hdetached, hrole⟩ := roles_of_resumes hres
    rw [hexec hdetached, receiveHello_of_up hrev hrole hup, if_pos ⟨hseen, (resumes_iff hdetached hrole).mp hres⟩]
  have hjudged : f.role ≠ .detached → f.role ≠ s.part.role → (f.seen = false ∨ ¬Resumes f s) →
      exec (.helloReceived f) s = .next (judgeHello f (loseSession .peerHello s)) := fun hdetached hrole hnot => by
    rw [hexec hdetached, receiveHello_of_up hrev hrole hup, if_neg]
    rintro ⟨hseen, hres⟩
    rcases hnot with h | h
    · simp [h] at hseen
    · exact h ((resumes_iff hdetached hrole).mpr hres)
  refine ⟨fun hres hseen hruns => ?runs, fun hres hseen hstopped => ?stopped, fun hres hseen => ?unseen,
    fun hdetached hrole hnot => ?judged, fun hdetached hrole => ?own⟩
  case runs => rw [hanswered hres hseen, answerHello, if_pos (Option.isSome_iff_ne_none.mpr hruns)]
  case stopped =>
    rw [hanswered hres hseen, answerHello, hstopped]
    rfl
  case unseen =>
    obtain ⟨hdetached, hrole⟩ := roles_of_resumes hres
    have hresumable : resumable f (loseSession .peerHello s) = true :=
      (resumable_loseSession _ f s).trans ((resumes_iff hdetached hrole).mp hres)
    refine ⟨_, loseSession .peerHello s, (hjudged hdetached hrole (.inl hseen)).trans ?_, lostSession .peerHello ha.1, rfl⟩
    rw [judgeHello_of_resumable hresumable, acceptHello_of_unseen hseen, if_neg (by simp)]
    refine congrArg _ ?_
    apply state_ext <;> simp [startHelloTimer, askHello]
  case judged =>
    refine ⟨_, loseSession .peerHello s, lostSession .peerHello ha.1, ?_, hjudged hdetached hrole hnot⟩
    obtain ⟨hrun, hgood, haligned⟩ := ha
    rw [exec_helloReceived ⟨by simpa using hrun, by simpa using hgood, by simpa using haligned⟩ hdetached (.inl (by simp)),
      receiveHello_of_seek hrev (by simpa using hrole) (by simp)]
  case own =>
    refine ⟨_, (hexec hdetached).trans (congrArg _ (receiveHello_of_own_role hrev hrole)), ?_⟩
    exact enterFault_from_up .role ha.1 hup

end Sys2Proof.Proofs
end

section
/-! Entry to UP (O42): the releases and the placement at a primary, the LINK frame and the adoption at a secondary. -/

namespace Sys2Proof.Proofs

open Sys2Proof.Machine

/-! ## The accepted HELLO -/

/-- The part in UP, seen set, with the HELLO that the first sight asks for (R118, R119). -/
def joined (s : State) : State :=
  (s.setSession { s.session with state := .up, seen := true, helloTimer := none }).setTx
    { s.tx with helloDue := s.tx.helloDue || !s.session.seen }

theorem upSession_joined {s u : State}
    (hu : u = if s.session.seen then s else startHelloTimer (askHello (s.setSession { s.session with seen := true }))) :
    upSession u = joined s := by
  subst hu
  cases hseen : s.session.seen
  · apply state_ext <;> simp [upSession, joined, startHelloTimer, askHello, hseen]
  · apply state_ext <;> simp [upSession, joined, hseen]

theorem acceptHello_of_seen {s : State} {f : HelloFrame} (h : f.seen = true) : acceptHello f s =
    enterUp f (if s.session.seen then s
      else startHelloTimer (askHello (s.setSession { s.session with seen := true }))) := by
  simp [acceptHello, h]

theorem accepted_part (s : State) :
    (if s.session.seen then s else startHelloTimer (askHello (s.setSession { s.session with seen := true }))).part =
      s.part := by
  split <;> rfl

/-- An accepted HELLO with seen 1 brings a primary UP (R118, R119). -/
theorem acceptHello_primary {s : State} {f : HelloFrame} (h : f.seen = true) (hrole : s.part.role = .primary) :
    acceptHello f s = raise .linkUp (startSilence (enterUpPrimary f (joined s))) := by
  rw [acceptHello_of_seen h, enterUp_of_primary f _ (by rw [accepted_part, hrole]), upSession_joined rfl]

/-- An accepted HELLO with seen 1 brings a secondary UP (R118, R119). -/
theorem acceptHello_secondary {s : State} {f : HelloFrame} (h : f.seen = true) (hrole : s.part.role = .secondary) :
    acceptHello f s = raise .linkUp (startSilence (enterUpSecondary (joined s))) := by
  rw [acceptHello_of_seen h, enterUp_of_secondary f _ (by rw [accepted_part, hrole]), upSession_joined rfl]

/-! ## The placement -/

/-- The oldest entry that a release at entry to UP leaves is the one the peer expects, or the OPEN entry before it
(R15, R18). -/
theorem oldestSeq_afterRelease {j : Journal} {k b : Nat} (h : Shape j k) (hb : b ≤ j.entries.length) {e : Seq}
    (he : e = oldestSeq j + BitVec.ofNat 12 b) :
    ((j.hasOpen = false ∨ e ≠ j.nextSeq) → oldestSeq (j.afterRelease e) = e) ∧
      (j.hasOpen = true → e = j.nextSeq → oldestSeq (j.afterRelease e) = e - 1#12) := by
  have hlen := h.len
  have hbase : oldestSeq (j.afterRelease e) = oldestSeq j + BitVec.ofNat 12 (j.gone e).length := by
    have hgone : (j.gone e).length ≤ j.entries.length := (List.takeWhile_prefix _).length_le
    rw [(h.afterRelease e).1]
    simp only [oldestSeq, List.length_drop]
    bv_omega
  obtain hgone | ⟨hgone, hlast, hi, ho⟩ := h.gone_length hb he
  · refine ⟨fun _ => by rw [hbase, hgone, he], fun hopen hnext => ?_⟩
    have hall : b = j.entries.length := by
      rw [he, nextSeq_eq (j := j)] at hnext
      exact add_ofNat_inj _ (by omega) (by omega) hnext
    obtain ⟨x, hx, hstate⟩ := List.any_eq_true.mp hopen
    obtain ⟨n, hn, rfl⟩ := List.getElem_of_mem hx
    have hmem : j.entries[n] ∈ j.gone e := by
      have hprefix := List.prefix_iff_eq_take.mp (List.takeWhile_prefix (releasable e) (l := j.entries))
      rw [Journal.gone, hprefix]
      rw [Journal.gone] at hgone
      rw [hgone, hall, List.take_length]
      exact hx
    have hrel := List.mem_takeWhile_imp hmem
    rw [beq_iff_eq] at hstate
    simp [releasable, hstate] at hrel
  · have hopen : j.hasOpen = true :=
      List.any_eq_true.mpr ⟨_, List.getElem_mem hi, beq_iff_eq.mpr ho⟩
    have hnext : e = j.nextSeq := by rw [he, nextSeq_eq (j := j), hlast]
    refine ⟨fun hnot => ?_, fun _ _ => ?_⟩
    · rcases hnot with h | h
      · simp [hopen] at h
      · exact absurd hnext h
    · generalize (j.gone e).length = g at hgone hbase
      rw [hbase, he, ← hgone]
      bv_omega

/-- What a release removes, in the words of the statement (R15). -/
theorem releasable_eq (n : Seq) (e : Entry) :
    releasable n e = (seqPrecedes e.seq n && decide (e.state ≠ .opened)) := by
  cases h : e.state <;> simp [releasable, h]

theorem raise_events {s t : State} (e : Event) (h : t.events = s.events) : (raise e t).events = (raise e s).events := by
  simp [raise, h]

/-- The part that an accepted HELLO with seen 1 brings UP as a primary (R119). -/
def primaryUp (f : HelloFrame) (s : State) : State := raise .linkUp (startSilence (enterUpPrimary f (joined s)))

theorem primaryUp_blocks (f : HelloFrame) (s : State) :
    (primaryUp f s).session = (release f.next (joined s)).session ∧
    (primaryUp f s).hold = (release f.next (joined s)).hold ∧
    (primaryUp f s).host = (release f.next (joined s)).host ∧
    (primaryUp f s).capture = (release f.next (joined s)).capture := by
  simp [primaryUp, startSilence, enterUpPrimary, place]

/-- What the releases at entry to UP hand on (R16, R73, R83, R128). -/
theorem released_handsOn {n : Seq} {s : State} {gone : List Entry} (hgone : s.journal.gone n = gone) :
    (gone = [] → (release n (joined s)).hold = s.hold ∧ (release n (joined s)).host = s.host ∧
      (release n (joined s)).capture = s.capture) ∧
    (gone ≠ [] → ∀ w, s.host.state = .stalled w →
      (release n (joined s)).host = { s.host with state := .request (.write w) false false } ∧
        (release n (joined s)).capture.stallTimer = none) ∧
    (gone.any (fun e => e.held) = true →
      (release n (joined s)).hold = { holding := false, timer := none, last := .released } ∧
        ∀ w, s.host.state = .held w → (release n (joined s)).host = { state := .idle, completion := some .writeDone }) ∧
    (gone.any (fun e => e.held) = false → (release n (joined s)).hold = s.hold) ∧
    (release n (joined s)).session.rejectRestarts =
      (if gone.any Entry.isSynced = true then 0 else s.session.rejectRestarts) := by
  have hgone' : (joined s).journal.gone n = gone := hgone
  by_cases hnone : gone = []
  · rw [release_of_nothing_gone (hgone'.trans hnone), hnone]
    simp [joined]
  · have hhands := release_handsOn (n := n) (s := joined s) (by rw [hgone']; exact hnone)
    rw [hgone'] at hhands
    obtain ⟨_, hstalled, hheld, hfree, hsession⟩ := hhands
    refine ⟨fun h => absurd h hnone, fun _ => hstalled, hheld, hfree, ?_⟩
    rw [hsession]
    split <;> rfl

/-- Settles O42: a primary's placement after its release, a secondary's entry with and without adoption. -/
theorem entryToUp : Obligations.EntryToUp := by
  intro s f ha hseek hrev hseen
  have hexec : ∀ u, f.role ≠ .detached → f.role ≠ s.part.role → judgeHello f s = u →
      exec (.helloReceived f) s = .next u := fun u hdetached hrole hu => by
    rw [exec_helloReceived ha hdetached (.inl hseek), receiveHello_of_seek hrev hrole hseek, hu]
  refine ⟨fun hpart hf hgen hnext hsound => ?primary, fun hpart hf hgen hnext => ?secondary,
    fun hpart hf hfresh hnot => ?adopted⟩
  case primary =>
    obtain ⟨k, h⟩ := (journalSound_iff s).mp hsound
    have hjudged : judgeHello f s = primaryUp f s := by
      rw [judgeHello_of_resumable (by simp [resumable_of_primary hpart, hgen, hnext]), acceptHello_primary hseen hpart, primaryUp]
    refine ⟨_, hexec _ (by simp [hf]) (by simp [hf, hpart]) hjudged, ?_⟩
    have hshape : Shape (joined s).journal k := h.shape
    obtain ⟨b, hb, hindex⟩ := index_of_seqLiesIn h.shape hnext
    obtain ⟨hplaced, hopened⟩ := oldestSeq_afterRelease h.shape hb hindex
    obtain ⟨hgone, hkept⟩ := h.shape.gone_eq_filter hb hindex
    have hafter := (h.shape.afterRelease f.next).2
    have hjournal : (primaryUp f s).journal = { s.journal.afterRelease f.next with
        entries := (s.journal.afterRelease f.next).entries.map (Entry.rewind (oldestSeq (s.journal.afterRelease f.next)))
        sendPoint := oldestSeq (s.journal.afterRelease f.next) } :=
      (by simp [primaryUp, startSilence, enterUpPrimary] : _ = (place f.next (joined s)).journal).trans
        (place_journal (s := joined s) hshape hnext)
    rw [hafter.map_rewind_oldest rfl, hkept] at hjournal
    simp only [releasable_eq] at hjournal
    obtain ⟨hsession, hhold, hhost, hcapture⟩ := primaryUp_blocks f s
    refine ⟨by simp [hsession, joined], by simp [hsession, joined], by simp [hsession, joined], ?_, ?_, ?_,
      flagSet_raise_same _ _, by rw [hjournal]; rfl, by rw [hjournal]; rfl, fun hnot => by rw [hjournal]; exact hplaced hnot,
      fun hopen hlast => by rw [hjournal]; exact hopened hopen hlast, by rw [hjournal], ?_, ?_⟩
    · simp [primaryUp, startSilence, enterUpPrimary, joined]
    · simp [primaryUp, startSilence, enterUpPrimary]
    · simp [primaryUp, startSilence, enterUpPrimary, joined]
    · intro gone hdef
      replace hgone := (hgone.trans (List.filter_congr fun e _ => releasable_eq _ e)).trans hdef.symm
      rw [hsession, hhold, hhost, hcapture]
      exact released_handsOn hgone
    · apply state_ext
      case hevents => exact raise_events .linkUp (by simp [joined, startSilence, enterUpPrimary])
      all_goals simp [primaryUp, joined, startSilence, enterUpPrimary]
  case secondary =>
    have hjudged : judgeHello f s = raise .linkUp (startSilence (enterUpSecondary (joined s))) := by
      rw [judgeHello_of_resumable (by simp [resumable_of_secondary hpart, hgen, hnext]), acceptHello_secondary hseen hpart]
    refine ⟨raise .linkUp (startSilence (enterUpSecondary (joined s))), hexec _ (by simp [hf]) (by simp [hf, hpart]) hjudged,
      ?_, rfl⟩
    apply state_ext
    case hevents => exact raise_events .linkUp (by simp [joined, startSilence, enterUpSecondary, pendLink])
    all_goals simp [joined, startSilence, enterUpSecondary, pendLink]
  case adopted =>
    refine hexec _ (by simp [hf]) (by simp [hf, hpart]) ?_
    have hresumable : resumable f s = false := by
      rw [resumable_of_secondary hpart]
      rcases hnot with h | h <;> simp [h]
    rw [judgeHello_of_not_resumable hresumable, hpart]
    show (if f.fresh = true then acceptHello f (adopt f s) else s) = _
    rw [if_pos hfresh, acceptHello_secondary hseen (by exact hpart)]
    apply state_ext
    case hevents => exact raise_events .linkUp (by simp [joined, startSilence, enterUpSecondary, pendLink, adopt, rearmNak])
    all_goals simp [joined, startSilence, enterUpSecondary, pendLink, adopt, rearmNak]

end Sys2Proof.Proofs
end

section
/-! What the arbiter leaves waiting does not act: the operations of the engines, the restarts among them, commute with a
change of a host port that neither holds nor stalls a write. -/

namespace Sys2Proof.Proofs

open Sys2Proof.Machine

section
variable (s : State) (x : HostPort)

/-! ## Updates of other blocks -/

@[simp] theorem setHost_setEvents (y : EventUnit) :
    (s.setHost x).setEvents y = (s.setEvents y).setHost x := rfl
@[simp] theorem setHost_setCounters (y : Vector Nat 15) :
    (s.setHost x).setCounters y = (s.setCounters y).setHost x := rfl
@[simp] theorem setHost_setPart (y : PartRole) :
    (s.setHost x).setPart y = (s.setPart y).setHost x := rfl
@[simp] theorem setHost_setPort (y : MemoryPort) :
    (s.setHost x).setPort y = (s.setPort y).setHost x := rfl
@[simp] theorem setHost_setMem (y : Memory) :
    (s.setHost x).setMem y = (s.setMem y).setHost x := rfl
@[simp] theorem setHost_setCapture (y : CaptureUnit) :
    (s.setHost x).setCapture y = (s.setCapture y).setHost x := rfl
@[simp] theorem setHost_setHold (y : HoldUnit) :
    (s.setHost x).setHold y = (s.setHold y).setHost x := rfl
@[simp] theorem setHost_setJournal (y : Journal) :
    (s.setHost x).setJournal y = (s.setJournal y).setHost x := rfl
@[simp] theorem setHost_setCopy (y : CopyUnit) :
    (s.setHost x).setCopy y = (s.setCopy y).setHost x := rfl
@[simp] theorem setHost_setSession (y : SessionUnit) :
    (s.setHost x).setSession y = (s.setSession y).setHost x := rfl
@[simp] theorem setHost_setTx (y : Transmitter) :
    (s.setHost x).setTx y = (s.setTx y).setHost x := rfl
@[simp] theorem setHost_setRx (y : Receiver) :
    (s.setHost x).setRx y = (s.setRx y).setHost x := rfl
@[simp] theorem setHost_setSender (y : SendDelivery) :
    (s.setHost x).setSender y = (s.setSender y).setHost x := rfl
@[simp] theorem setHost_setAcker (y : AckDelivery) :
    (s.setHost x).setAcker y = (s.setAcker y).setHost x := rfl
@[simp] theorem setHost_setApplyq (y : ApplyUnit) :
    (s.setHost x).setApplyq y = (s.setApplyq y).setHost x := rfl

/-! ## Shared operations -/

@[simp] theorem raise_setHost (e : Event) :
    raise e (s.setHost x) = (raise e s).setHost x := rfl
@[simp] theorem count_setHost (c : Counter) :
    count c (s.setHost x) = (count c s).setHost x := rfl
@[simp] theorem askHello_setHost :
    askHello (s.setHost x) = (askHello s).setHost x := rfl
@[simp] theorem startHelloTimer_setHost :
    startHelloTimer (s.setHost x) = (startHelloTimer s).setHost x := rfl
@[simp] theorem enterSeek_setHost :
    enterSeek (s.setHost x) = (enterSeek s).setHost x := rfl
@[simp] theorem sealOpen_setHost :
    sealOpen (s.setHost x) = (sealOpen s).setHost x := rfl
@[simp] theorem leaveSecondary_setHost :
    leaveSecondary (s.setHost x) = (leaveSecondary s).setHost x := rfl
@[simp] theorem clearSender_setHost :
    clearSender (s.setHost x) = (clearSender s).setHost x := rfl
@[simp] theorem clearRejectRestarts_setHost :
    clearRejectRestarts (s.setHost x) = (clearRejectRestarts s).setHost x := rfl
@[simp] theorem completeEntry_setHost (q : Seq) :
    completeEntry q (s.setHost x) = (completeEntry q s).setHost x := rfl
@[simp] theorem pushEntry_setHost (c : Content) (st : EntryState) :
    pushEntry c st (s.setHost x) = (pushEntry c st s).setHost x := rfl
@[simp] theorem copyMayRun_setHost : copyMayRun (s.setHost x) = copyMayRun s := rfl
@[simp] theorem syncedDue_setHost : syncedDue (s.setHost x) = syncedDue s := rfl
@[simp] theorem restartGeneration_setHost (r : RestartReason) :
    restartGeneration r (s.setHost x) = restartGeneration r s := rfl
@[simp] theorem withdrawCopy_setHost :
    withdrawCopy (s.setHost x) = (withdrawCopy s).setHost x := by
  simp only [withdrawCopy, State.setHost_copy, copyMayRun_setHost]
  split
  · by_cases h : copyMayRun s = true <;> simp [h]
  · rfl
@[simp] theorem append_setHost (c : Content) :
    append c (s.setHost x) = (append c s).setHost x := by
  simp [append]
@[simp] theorem takeHeldRewind_setHost :
    takeHeldRewind (s.setHost x) = (takeHeldRewind s).setHost x := by
  simp only [takeHeldRewind_eq, State.setHost_journal, setHost_setJournal]
@[simp] theorem abortFrame_setHost :
    abortFrame (s.setHost x) = (abortFrame s).setHost x := by
  simp only [abortFrame, State.setHost_tx]
  split <;> simp
@[simp] theorem leaveUp_setHost (r : LossReason) :
    leaveUp r (s.setHost x) = (leaveUp r s).setHost x := by
  simp only [leaveUp]
  simp
  split <;> simp
@[simp] theorem loseSession_setHost (r : LossReason) :
    loseSession r (s.setHost x) = (loseSession r s).setHost x := by
  simp [loseSession]
@[simp] theorem offerSynced_setHost :
    offerSynced (s.setHost x) = (offerSynced s).setHost x := by
  unfold offerSynced
  rw [syncedDue_setHost, State.setHost_journal]
  split
  · simp
  · rfl
@[simp] theorem restartSession_setHost :
    restartSession (s.setHost x) = (restartSession s).setHost x := by
  simp only [restartSession, State.setHost_session]
  split <;> simp

end

/-! ## Where no write is held or stalled -/

/-- No write is HELD and none is STALLED. -/
def HostQuiet (h : HostPort) : Prop := (∀ w, h.state ≠ .held w) ∧ ∀ w, h.state ≠ .stalled w

theorem hostQuiet_idle (c : Option Completion) : HostQuiet { state := .idle, completion := c } :=
  ⟨fun _ h => HostState.noConfusion h, fun _ h => HostState.noConfusion h⟩

theorem hostQuiet_request (t : HostTxn) (p q : Bool) (c : Option Completion) :
    HostQuiet { state := .request t p q, completion := c } :=
  ⟨fun _ h => HostState.noConfusion h, fun _ h => HostState.noConfusion h⟩

section
variable {s : State} {x : HostPort}

theorem completeHeld_of_quiet (h : HostQuiet s.host) : completeHeld s = s := by
  unfold completeHeld
  split
  · exact absurd ‹_› (h.1 _)
  · rfl

theorem endStall_of_quiet (h : HostQuiet s.host) : endStall s = s := by
  unfold endStall
  split
  · exact absurd ‹_› (h.2 _)
  · rfl

theorem endHold_of_quiet (o : HoldOutcome) (h : HostQuiet s.host) :
    endHold o s = s.setHold { holding := false, timer := none, last := o } :=
  completeHeld_of_quiet (s := s.setHold { holding := false, timer := none, last := o }) h

theorem discardJournal_setHost (hs : HostQuiet s.host) (hx : HostQuiet x) :
    discardJournal (s.setHost x) = (discardJournal s).setHost x := by
  cases hheld : s.journal.entries.any (fun e => e.held) with
  | false => simp [discardJournal, hheld]
  | true =>
    simp only [discardJournal, State.setHost_journal, hheld, if_true]
    rw [endHold_of_quiet _ (by exact hx), endHold_of_quiet _ (by exact hs)]
    rfl

theorem discardJournal_host_of_quiet (hs : HostQuiet s.host) : (discardJournal s).host = s.host :=
  discardJournal_host_of_not_held hs.1

/-- A restart does not act on a host port that neither holds nor stalls a write (R73, R85). -/
theorem restart_setHost (r : RestartReason) (hs : HostQuiet s.host) (hx : HostQuiet x) :
    restart r (s.setHost x) = (restart r s).setHost x := by
  have hrestarted : restarted r (s.setHost x) = (restarted r s).setHost x := by
    simp [restarted, restartBegun, discardJournal_setHost hs hx]
  have hhost : (offerSynced (restarted r s)).host = s.host := by
    rw [← discardJournal_host_of_quiet hs]
    simp [restarted]
  rw [restart_eq_restarted, restart_eq_restarted, hrestarted, offerSynced_setHost,
    endStall_of_quiet (s := offerSynced (restarted r s)) (by rw [hhost]; exact hs), endStall_of_quiet (by exact hx)]

theorem restart_host_of_quiet (r : RestartReason) (hs : HostQuiet s.host) : (restart r s).host = s.host := by
  rw [restart_host, endStall_of_quiet (by rw [discardJournal_host_of_quiet hs]; exact hs), discardJournal_host_of_quiet hs]

theorem completePromotion_setHost (hs : HostQuiet s.host) (hx : HostQuiet x) :
    completePromotion (s.setHost x) = (completePromotion s).setHost x := by
  rw [completePromotion_eq, completePromotion_eq, ← raise_setHost, ← restart_setHost .promote (by exact hs) hx]
  rfl

theorem completePromotion_host_of_quiet (hs : HostQuiet s.host) : (completePromotion s).host = s.host := by
  have hrestart : (restart .promote (promoted s)).host = s.host :=
    restart_host_of_quiet (s := promoted s) .promote (by exact hs)
  simpa [completePromotion_eq] using hrestart

theorem endPromotion_host_of_quiet (hs : HostQuiet s.host) : (endPromotion s).host = s.host := by
  unfold endPromotion
  split
  · exact completePromotion_host_of_quiet hs
  · rfl

theorem endPromotion_setHost (hs : HostQuiet s.host) (hx : HostQuiet x) :
    endPromotion (s.setHost x) = (endPromotion s).setHost x := by
  unfold endPromotion
  rw [State.setHost_part, State.setHost_applyq]
  split
  · exact completePromotion_setHost hs hx
  · rfl

end


end Sys2Proof.Proofs
end

section
/-! The Apply Engine: entries that complete within their take (O45), WRITE and COPY entries at the memory port (O46). -/

namespace Sys2Proof.Proofs

open Sys2Proof.Machine

/-! ## The take -/

theorem exec_applyTake {s : State} (hrun : s.inReset = false) : exec .applyTake s = .next (applyTake s) :=
  working_of_running applyTake s hrun

theorem exec_promotionCompletion {s : State} (hrun : s.inReset = false) :
    exec .promotionCompletion s = .next (endPromotion s) :=
  working_of_running endPromotion s hrun

theorem applyTake_of_queued {s : State} {e : DataFrame} {rest : List DataFrame} (hidle : s.applyq.engine = .idle)
    (hqueue : s.applyq.queue = e :: rest) :
    applyTake s = takeEntry e (s.setApplyq { s.applyq with queue := rest }) := by
  simp [applyTake, hidle, hqueue]

/-- An entry taken and completed, before what its content does (R149, R156). -/
def takenEntry (e : DataFrame) (rest : List DataFrame) (s : State) : State :=
  (s.setApplyq { s.applyq with queue := rest, lastApplied := some e.seq }).setAcker { s.acker with linkPending := true }

/-- The slot of a completed entry comes free (R148, R156). -/
theorem limit_of_taken {s : State} {e : DataFrame} {rest : List DataFrame} (hidle : s.applyq.engine = .idle)
    (hqueue : s.applyq.queue = e :: rest) (hlength : rest.length < 32) :
    (takenEntry e rest s).applyq.limit = s.applyq.limit + 1#12 := by
  have hbefore : s.applyq.count = rest.length + 1 := by simp [ApplyUnit.count, hqueue, hidle]
  have hafter : (takenEntry e rest s).applyq.count = rest.length := by simp [ApplyUnit.count, takenEntry, hidle]
  have hexpected : (takenEntry e rest s).applyq.expected = s.applyq.expected := rfl
  rw [ApplyUnit.limit, ApplyUnit.limit, hbefore, hafter, hexpected, Config.applySlots]
  bv_omega

theorem runValid_of_window {b : Bank} {pages : Nat} {r : Run} {i : WindowId} (hi : r.window = i.val) :
    runValid b pages r = (b[i].present && decide (b[i].firstWord ≤ r.start) &&
      decide (r.start + r.words.length ≤ b[i].endWord) && decide (r.start + r.words.length ≤ 256 * pages)) := by
  have hlt : r.window < 16 := by omega
  obtain rfl : i = ⟨r.window, hlt⟩ := Fin.ext hi.symm
  rw [runValid, dif_pos hlt]
  rfl

/-- A run that lies in no present window of its number is not valid (R150). -/
theorem runValid_eq_false {b : Bank} {pages : Nat} {r : Run}
    (h : ∀ i : WindowId, r.window = i.val → b[i].present = false ∨ r.start < b[i].firstWord ∨
      b[i].endWord < r.start + r.words.length ∨ 256 * pages < r.start + r.words.length) : runValid b pages r = false := by
  by_cases hlt : r.window < 16
  · have hcase := h ⟨r.window, hlt⟩ rfl
    rw [runValid_of_window (i := ⟨r.window, hlt⟩) rfl]
    simp only [Bool.and_eq_false_iff, decide_eq_false_iff_not, not_le]
    tauto
  · exact dif_neg hlt

theorem runValid_eq_true {b : Bank} {pages : Nat} {r : Run}
    (h : ∃ i : WindowId, r.window = i.val ∧ b[i].present = true ∧ b[i].firstWord ≤ r.start ∧
      r.start + r.words.length ≤ b[i].endWord ∧ r.start + r.words.length ≤ 256 * pages) : runValid b pages r = true := by
  obtain ⟨i, hi, hpresent, hfirst, hend, hpages⟩ := h
  rw [runValid_of_window hi, hpresent, decide_eq_true hfirst, decide_eq_true hend, decide_eq_true hpages]
  rfl

/-! ## Control entries -/

/-- An entry completed within its take, the last of a drain with the promotion (R156, R182). -/
theorem taken_completes {s v : State} {rest : List DataFrame} (hrun : s.inReset = false)
    (htake : applyTake s = endPromotion v) (hvrun : v.inReset = false) (hpart : v.part = s.part)
    (hcount : v.applyq.count = rest.length) :
    (s.part.promotionPending = false ∨ rest ≠ [] → exec .applyTake s = .next v) ∧
      (s.part.promotionPending = true → rest = [] → exec .applyTake s = exec .promotionCompletion v ∧
        ∃ t, exec .promotionCompletion v = .next t ∧ flagSet .promoteDone t = true ∧
          t.part = { role := .primary, promotionPending := false, forced := !v.applyq.consistent }) := by
  rw [exec_applyTake hrun, htake, exec_promotionCompletion hvrun]
  refine ⟨fun hdraining => ?_, fun hpending hlast => ⟨rfl, _, rfl, ?_⟩⟩
  · rw [endPromotion_of_draining v]
    rw [hpart, hcount]
    exact hdraining.imp_right fun hne hzero => hne (List.eq_nil_of_length_eq_zero hzero)
  · rw [endPromotion_of_drained v (by rw [hpart, hpending]) (by rw [hcount, hlast]; rfl)]
    exact ⟨flagSet_completePromotion v, completePromotion_part v⟩

/-- What an entry that needs no grant does with its content is what its completion adds to (R149, R156). -/
theorem control_completes {s x v : State} {e : DataFrame} {rest : List DataFrame} (hrun : s.inReset = false)
    (hidle : s.applyq.engine = .idle) (hqueue : s.applyq.queue = e :: rest)
    (htake : takeEntry e (s.setApplyq { s.applyq with queue := rest }) = finishEntry e.seq x)
    (hv : completeEntry e.seq x = v) (hreset : x.inReset = s.inReset) (hpart : x.part = s.part)
    (hrest : x.applyq.queue = rest) :
    (s.part.promotionPending = false ∨ rest ≠ [] → exec .applyTake s = .next v) ∧
      (s.part.promotionPending = true → rest = [] → exec .applyTake s = exec .promotionCompletion v ∧
        ∃ t, exec .promotionCompletion v = .next t ∧ flagSet .promoteDone t = true ∧
          t.part = { role := .primary, promotionPending := false, forced := !v.applyq.consistent }) := by
  subst hv
  refine taken_completes hrun ((applyTake_of_queued hidle hqueue).trans htake) (hreset.trans hrun) hpart ?_
  simp [completeEntry, pendLink, ApplyUnit.count, hrest]

theorem takeEntry_of_rejected {s : State} {e : DataFrame}
    (h : e.content.validFor s.table.active s.params.memPages = false) :
    takeEntry e s = finishEntry e.seq (rejectEntry s) := if_pos h

theorem takeEntry_generation {s : State} {e : DataFrame} {g : Gen} (h : e.content = .generation g) :
    takeEntry e s = finishEntry e.seq (applyGeneration g s) := by
  simp [takeEntry, h, Content.validFor]

theorem takeEntry_synced {s : State} {e : DataFrame} {g : Gen} (h : e.content = .synced g) :
    takeEntry e s = finishEntry e.seq (applySynced g s) := by
  simp [takeEntry, h, Content.validFor]

theorem takeEntry_table {s : State} {e : DataFrame} {records : Bank} {complete : Bool}
    (h : e.content = .table records complete) (hvalid : bankValid records s.params.memPages = true) :
    takeEntry e s = finishEntry e.seq (applyTable records complete s) := by
  have hv : e.content.validFor s.table.active s.params.memPages = true := by rw [h]; exact hvalid
  rw [takeEntry, if_neg (by simp [hv]), h]

/-- Settles O45: content by content, what the take completes is `v`, and the drain decides what follows. -/
theorem controlEntriesTaken : Obligations.ControlEntriesTaken := by
  intro s hrun
  refine ⟨fun hnothing => ?nothing, fun e rest u v hidle hqueue hu => ⟨fun hlength => ?limit, fun hcontent => ?taken⟩⟩
  case nothing =>
    rw [exec_applyTake hrun]
    obtain heq | ⟨e, rest, hidle, hqueue, _⟩ := applyTake_cases s
    · rw [heq]
    · rcases hnothing with h | h
      · exact absurd hidle h
      · simp [h] at hqueue
  case limit => exact hu ▸ limit_of_taken hidle hqueue hlength
  case taken =>
    obtain ⟨g, hg, rfl⟩ | ⟨hg, hreject, rfl⟩ | ⟨g, hg, hnot, rfl⟩ | ⟨records, complete, ht, hheld, hvalid, rfl⟩ |
      ⟨hinvalid, rfl⟩ := hcontent
    · refine control_completes hrun hidle hqueue (x := applyGeneration g (s.setApplyq { s.applyq with queue := rest }))
        (takeEntry_generation hg) ?_ rfl rfl rfl
      rw [hu]
      apply state_ext <;> simp [completeEntry, pendLink, applyGeneration, hidle]
    · have hsynced : applySynced s.applyq.dataGeneration (s.setApplyq { s.applyq with queue := rest }) =
          raise .synced (s.setApplyq { s.applyq with queue := rest, consistent := true }) := by
        simp [applySynced, hreject]
      refine control_completes hrun hidle hqueue (x := raise .synced
        (s.setApplyq { s.applyq with queue := rest, consistent := true }))
        ((takeEntry_synced hg).trans (congrArg _ hsynced)) ?_ (by simp) (by simp) (by simp)
      rw [hu]
      apply state_ext <;> simp [completeEntry, pendLink, hidle, raise]
    · have hsynced : applySynced g (s.setApplyq { s.applyq with queue := rest }) =
          s.setApplyq { s.applyq with queue := rest } := by
        refine if_neg fun ⟨heq, hreject⟩ => ?_
        rcases hnot with h | h
        · exact h heq
        · simp only [State.setApplyq_applyq] at hreject
          simp [h] at hreject
      refine control_completes hrun hidle hqueue (x := s.setApplyq { s.applyq with queue := rest })
        ((takeEntry_synced hg).trans (congrArg _ hsynced)) ?_ rfl rfl rfl
      rw [hu]
      apply state_ext <;> simp [completeEntry, pendLink, hidle]
    · refine control_completes hrun hidle hqueue
        (x := applyTable records complete (s.setApplyq { s.applyq with queue := rest }))
        (takeEntry_table (s := s.setApplyq { s.applyq with queue := rest }) ht hvalid) ?_
        (by simp [applyTable]) (by simp [applyTable]) (by simp [applyTable])
      have hnormal : bankNormal records = records := Vector.ext fun i hi => by
        have hget := bankNormal_get records ⟨i, hi⟩
        rw [← hheld ⟨i, hi⟩] at hget
        exact hget
      rw [hu]
      apply state_ext <;> simp [completeEntry, pendLink, applyTable, hidle, hnormal]
    · have hbad : e.content.validFor s.table.active s.params.memPages = false := by
        obtain ⟨records, complete, ht, hvalid⟩ | ⟨rs, r, hrs, hr, hout⟩ := hinvalid
        · rw [ht]
          exact hvalid
        · have hrun := runValid_eq_false hout
          rcases hrs with hc | ⟨hc, hrs⟩
          · rw [hc]
            exact List.all_eq_false.mpr ⟨r, hr, by simp [hrun]⟩
          · rw [hc]
            exact hrun
      refine control_completes hrun hidle hqueue (x := rejectEntry (s.setApplyq { s.applyq with queue := rest }))
        (takeEntry_of_rejected hbad) ?_ (by simp [rejectEntry]) (by simp [rejectEntry]) (by simp [rejectEntry])
      rw [hu]
      apply state_ext <;> simp [completeEntry, pendLink, rejectEntry, raise, count, hidle]

end Sys2Proof.Proofs
end

section
/-! WRITE and COPY entries at the memory port (O46). -/

namespace Sys2Proof.Proofs

open Sys2Proof.Machine

/-! ## The take of an entry with words -/

theorem takeEntry_words {s : State} {e : DataFrame} {rs : List Run}
    (hcontent : e.content = .write rs ∨ ∃ r, e.content = .copy r ∧ rs = [r])
    (hvalid : ∀ r ∈ rs, runValid s.table.active s.params.memPages r = true) :
    takeEntry e s = arbitrate (s.setApplyq { s.applyq with engine := .waiting e }) := by
  have hv : e.content.validFor s.table.active s.params.memPages = true := by
    obtain h | ⟨r, h, rfl⟩ := hcontent
    · rw [h]
      exact List.all_eq_true.mpr hvalid
    · rw [h]
      exact hvalid r (List.mem_singleton_self r)
  rw [takeEntry, if_neg (by simp [hv])]
  obtain h | ⟨r, h, rfl⟩ := hcontent <;> rw [h]

/-! ## The end of the operation -/

/-- The part with the words of an entry in memory, the entry completed and the memory port IDLE (R151, R156). -/
def applied (e : DataFrame) (s : State) : State :=
  (((s.setMem (s.mem.writeAll e.content.accesses)).setApplyq
    { s.applyq with engine := .idle, lastApplied := some e.seq }).setAcker
    { s.acker with linkPending := true }).setPort { s.port with holder := .idle }

theorem endApply_eq {s : State} {e : DataFrame} (hport : s.port.holder = .apply) (hengine : s.applyq.engine = .writing e) :
    endApply s = arbitrate (endPromotion (applied e s)) := by
  simp only [endApply, hport, hengine]
  rfl

theorem exec_endApply {s : State} {e : DataFrame} (hrun : s.inReset = false) (hport : s.port.holder = .apply)
    (hengine : s.applyq.engine = .writing e) :
    exec .applyOperationCompletion s = .next (arbitrate (endPromotion (applied e s))) :=
  (working_of_running endApply s hrun).trans (congrArg _ (endApply_eq hport hengine))

theorem applied_count (e : DataFrame) (s : State) : (applied e s).applyq.count = s.applyq.queue.length := by
  simp [applied, ApplyUnit.count]

theorem endPromotion_of_draining_applied {s : State} {e : DataFrame}
    (h : s.part.promotionPending = false ∨ s.applyq.queue ≠ []) : endPromotion (applied e s) = applied e s := by
  refine endPromotion_of_draining _ (h.imp id fun hne hzero => hne ?_)
  rw [applied_count] at hzero
  exact List.eq_nil_of_length_eq_zero hzero

/-- A restart leaves the engines without a request when they had none (R165, R172). -/
theorem engineRequests_completePromotion {s : State} (happly : s.applyq.engine = .idle) (hcopy : s.copy.engine = .idle) :
    engineRequests (completePromotion s) = false := by
  obtain ⟨_, _, _, _, _, _, _, _, _, _, _, hengine, _⟩ := restartedStream_completePromotion s
  have hkept := hengine (by simp [hcopy])
  simp [engineRequests, hkept, happly, hcopy]

theorem engineRequests_endPromotion {s : State} (happly : s.applyq.engine = .idle) (hcopy : s.copy.engine = .idle) :
    engineRequests (endPromotion s) = false := by
  unfold endPromotion
  split
  · exact engineRequests_completePromotion happly hcopy
  · simp [engineRequests, happly, hcopy]

/-- A request that does not stand at the arbiter does not come to stand there by a restart (R53). -/
theorem hostRequests_of_eased {s t : State} (h : HostEased s.host.state t.host.state) (hs : hostRequests s = false) :
    hostRequests t = false := by
  unfold hostRequests at hs ⊢
  obtain heq | ⟨w, _, heq⟩ | ⟨w, _, heq⟩ := h
  · rw [heq]
    exact hs
  · rw [heq]
  · rw [heq]

/-- With nothing waiting the arbiter does nothing (R46). -/
theorem arbitrate_of_nothing_waiting {s : State} (hhost : hostRequests s = false) (hengine : engineRequests s = false) :
    arbitrate s = s :=
  arbitrate_of_settled fun _ => ⟨hhost, hengine⟩

/-- A host transaction that waits behind an operation meets at its end what a new one would meet (R46, R47). -/
theorem arbitrate_waiting_host {u : State} (txn : HostTxn) (hrun : u.inReset = false)
    (hhost : u.host = { state := .idle, completion := none }) (hengine : engineRequests u = false) :
    .next (arbitrate (u.setHost { state := .request txn true false, completion := none })) =
      exec (.hostTransaction txn) (arbitrate u) := by
  have hquiet : arbitrate u = u := arbitrate_of_nothing_waiting (by simp [hostRequests, hhost]) hengine
  rw [hquiet, exec_hostTransaction txn hrun (by simp [hhost])]
  rfl

theorem completePromotion_eased (s : State) : HostEased s.host.state (completePromotion s).host.state := by
  rw [completePromotion_eq]
  exact restart_eased .promote (promoted s)

/-- The host's read is granted (R46). -/
theorem grantHost_of_read {s : State} {a : Addr} {p : Bool} (h : s.host.state = .request (.read a) true p) :
    grantHost s = (s.setHost { s.host with state := .access (.read a) }).setPort
      { holder := .hostRead, lastGrant := .host } := by
  obtain ⟨hnone, _⟩ | ⟨b, q, hb, heq⟩ | ⟨w, q, hw, _⟩ := grantHost_cases s
  · simp [hostRequests, h] at hnone
  · rw [h] at hb
    cases hb
    exact heq
  · rw [h] at hw
    cases hw

/-- Settles O46: the take, the words at the end of the operation, and what the freed port brings. -/
theorem wordEntriesApplied : Obligations.WordEntriesApplied := by
  intro s e hrun
  refine ⟨fun rest rs hidle hqueue hcontent hvalid => ?take, fun v hport hengine hcopy hv => ?ends⟩
  case take =>
    have htake : applyTake s = arbitrate (s.setApplyq { s.applyq with queue := rest, engine := .waiting e }) :=
      (applyTake_of_queued hidle hqueue).trans (takeEntry_words hcontent fun r hr => runValid_eq_true (hvalid r hr))
    rw [exec_applyTake hrun, htake]
    refine ⟨fun hport hhost => ?_, fun hport => ?_⟩
    · rw [arbitrate_of_no_host (by exact hport) (by exact hhost),
        grantEngine_of_apply (e := e) (s := s.setApplyq { s.applyq with queue := rest, engine := .waiting e }) rfl]
      rfl
    · rw [arbitrate_of_busy (by exact hport)]
  case ends =>
    have hv' : v = applied e s := hv
    have hexec := exec_endApply hrun hport hengine
    have hnone : engineRequests v = false := by simp [hv', engineRequests, applied, hcopy]
    have hvrun : v.inReset = false := by rw [hv]; exact hrun
    have hvhost : v.host = s.host := by rw [hv]; rfl
    rw [← hv'] at hexec
    refine ⟨fun hhost hdraining => ?_, fun hhost hpending hlast => ?_, fun a p hread hdraining => ?_, fun txn hhost => ?_⟩
    · rw [hexec, hv', endPromotion_of_draining_applied hdraining, ← hv', arbitrate_of_nothing_waiting ?_ hnone]
      simpa [hostRequests, hvhost] using hhost
    · have hpart : v.part = s.part := by rw [hv]; rfl
      have hcount : v.applyq.count = 0 := by rw [hv', applied_count, hlast]; rfl
      have hdrained := endPromotion_of_drained v (by rw [hpart, hpending]) hcount
      have hquiet : hostRequests (completePromotion v) = false :=
        hostRequests_of_eased (completePromotion_eased v) (by simpa [hostRequests, hvhost] using hhost)
      have hidle : engineRequests (completePromotion v) = false :=
        engineRequests_completePromotion (by rw [hv]; rfl) (by rw [hv]; exact hcopy)
      rw [hexec, exec_promotionCompletion hvrun, hdrained, arbitrate_of_nothing_waiting hquiet hidle]
      refine ⟨rfl, _, rfl, flagSet_completePromotion v, ?_⟩
      rw [completePromotion_part, show v.applyq.consistent = s.applyq.consistent by rw [hv]; rfl]
    · have hvread : v.host.state = .request (.read a) true p := by rw [hvhost, hread]
      have hgrant : grantHost v = (v.setPort { holder := .hostRead, lastGrant := .host }).setHost
          { s.host with state := .access (.read a) } := by
        rw [grantHost_of_read hvread, hvhost]
        rfl
      rw [hexec, hv', endPromotion_of_draining_applied hdraining, ← hv',
        arbitrate_of_host (by rw [hv]; rfl) (by simp [hostRequests, hvread]) hnone
          (by rw [hgrant]; exact settled_of_busy (by simp)), hgrant]
    · have hrequest : HostQuiet s.host := by rw [hhost]; exact hostQuiet_request _ _ _ _
      have hv0 : applied e (s.setHost { state := .idle, completion := none }) =
          v.setHost { state := .idle, completion := none } := by rw [hv']; rfl
      have hvquiet : HostQuiet v.host := by rw [hvhost]; exact hrequest
      have hcommutes : endPromotion v =
          (endPromotion (v.setHost { state := .idle, completion := none })).setHost
            { state := .request txn true false, completion := none } := by
        rw [← endPromotion_setHost (s := v.setHost _) (hostQuiet_idle _) (hostQuiet_request _ _ _ _), ← hhost, ← hvhost]
        rfl
      refine ⟨_, exec_endApply (s := s.setHost { state := .idle, completion := none }) hrun hport hengine, ?_⟩
      rw [hexec, hv0, hcommutes]
      refine arbitrate_waiting_host txn (by simpa using hvrun) ?_ ?_
      · exact endPromotion_host_of_quiet (s := v.setHost _) (hostQuiet_idle _)
      · exact engineRequests_endPromotion (by rw [hv]; rfl) (by rw [hv]; exact hcopy)

end Sys2Proof.Proofs
end

section
/-! The Copy Engine: the pick and the request (O47), the end of a burst (O48). -/

namespace Sys2Proof.Proofs

open Sys2Proof.Machine

/-! ## The pick and the request -/

theorem copyMayRun_iff (s : State) : copyMayRun s = true ↔
    s.part.role = .primary ∧ s.session.state = .up ∧ s.journal.entries.length ≤ 56 := by
  have hslots : Config.copySlots ≤ s.journal.freeSlots ↔ s.journal.entries.length ≤ 56 := by
    unfold Journal.freeSlots Config.journalSlots Config.copySlots
    omega
  rw [copyMayRun, Bool.and_eq_true, Bool.and_eq_true, beq_iff_eq, beq_iff_eq, decide_eq_true_eq, hslots, and_assoc]

theorem windowIds_sorted : windowIds.Pairwise (· < ·) := by decide

/-- The lowest id with a property is the one that no lower id shares it with. -/
theorem firstId_of_first {p : WindowId → Bool} {i : WindowId} (hi : p i = true) (hfirst : ∀ j < i, p j = false) :
    firstId p = some i := by
  cases h : firstId p with
  | none => exact absurd hi (List.find?_eq_none.mp h i (mem_windowIds i))
  | some j =>
    obtain ⟨hj, before, after, hsplit, hbefore⟩ := List.find?_eq_some_iff_append.mp h
    have hnot : ¬j < i := fun hlt => by simp [hfirst j hlt] at hj
    have hmem := mem_windowIds i
    rw [hsplit, List.mem_append, List.mem_cons] at hmem
    rcases hmem with hmem | rfl | hmem
    · exact absurd hi (by simpa using hbefore i hmem)
    · rfl
    · have hsorted := windowIds_sorted
      rw [hsplit, List.pairwise_append, List.pairwise_cons] at hsorted
      exact absurd (hsorted.2.1.1 i hmem) hnot

/-- Settles O47: the run conditions, then the window and the cursor. -/
theorem copyPickAndRequest : Obligations.CopyPickAndRequest := by
  intro s hrun
  have hpick : exec .copyPick s = .next (copyPick s) := working_of_running copyPick s hrun
  have hrequest : exec .copyBurstRequest s = .next (copyRequest s) := working_of_running copyRequest s hrun
  rw [hpick, hrequest]
  refine ⟨fun hnot => ?idles, fun hrole hup hslots hidle => ⟨fun i hnone hpending hfirst => ?picks,
    fun i c hcopying honly => ?requests⟩⟩
  case idles =>
    have hmay : s.copy.engine = .idle → copyMayRun s = true → False := fun hidle hmay => by
      obtain ⟨hrole, hup, hslots⟩ := (copyMayRun_iff s).mp hmay
      rcases hnot with h | h | h | h
      · exact h hrole
      · exact h hup
      · omega
      · exact h hidle
    rw [copyPick, if_neg fun h => hmay h.1 h.2.1, copyRequest, if_neg fun h => hmay h.1 h.2]
    exact ⟨rfl, rfl⟩
  case picks =>
    have hmay := (copyMayRun_iff s).mpr ⟨hrole, hup, hslots⟩
    have hwindow := copyingWindow_eq_none.mpr hnone
    have hid : firstId (fun i => s.copy.states[i] == .pending) = some i :=
      firstId_of_first (by simpa using hpending) fun j hj => by simpa using hfirst j hj
    rw [copyPick, if_pos ⟨hidle, hmay, hwindow⟩, hid]
    rfl
  case requests =>
    have hmay := (copyMayRun_iff s).mpr ⟨hrole, hup, hslots⟩
    have hwaits : copyRequest s = arbitrate (s.setCopy { s.copy with engine := .waiting i c }) := by
      rw [copyRequest, if_pos ⟨hidle, hmay⟩, copyingWindow_of_only hcopying honly]
    rw [hwaits]
    refine ⟨fun hbusy => by rw [arbitrate_of_busy (by exact hbusy)], fun hfree hhost happly => ?_⟩
    rw [arbitrate_of_no_host (by exact hfree) (by exact hhost),
      grantEngine_of_copy (w := i) (c := c) (by simp [happly]) rfl]
    rfl

/-! ## The end of a burst -/

/-- The part at the end of a copy burst, before the arbiter grants again (R167, R168). -/
def burstEnded (i : WindowId) (c : Nat) (v : Bool) (s : State) : State :=
  if v = true ∨ s.copy.states[i] ≠ .copying c then burstFreed c s
  else finishBurst i c (burstRun i c s.mem) (burstFreed c s)

theorem exec_copyBurstCompletion {s : State} {i : WindowId} {c : Nat} {v : Bool} (hrun : s.inReset = false)
    (hport : s.port.holder = .burst) (hengine : s.copy.engine = .reading i c v)
    (hslot : v = true ∨ s.copy.states[i] ≠ .copying c ∨ s.journal.entries.length < 64) :
    exec .copyBurstCompletion s = .next (arbitrate (burstEnded i c v s)) := by
  have hexec : exec .copyBurstCompletion s = endBurst i c v s := by
    show execCopyBurstCompletion s = _
    simp [execCopyBurstCompletion, hrun, hport, hengine]
  rw [hexec, endBurst_eq, burstEnded]
  by_cases hvoid : v = true ∨ s.copy.states[i] ≠ .copying c
  · rw [if_pos hvoid, if_pos hvoid]
  · have hfree : s.journal.freeSlots ≠ 0 := by
      obtain ⟨hv, hstate⟩ := not_or.mp hvoid
      have hlength := (hslot.resolve_left hv).resolve_left hstate
      exact Nat.ne_of_gt ((freeSlots_pos s.journal).mpr hlength)
    rw [if_neg hvoid, if_neg hvoid, if_neg hfree]

/-- With every word of the burst fitted the reads leave memory as it is (R57). -/
theorem afterReads_of_fits {m : Memory} {c : Nat} (h : ∀ k < 16, m.fits (c + k) = true) :
    m.afterReads (burstAddresses c) = m := by
  refine if_pos (List.all_eq_true.mpr fun a ha => ?_)
  obtain ⟨k, hk, rfl⟩ := List.mem_map.mp ha
  exact h k (List.mem_range.mp hk)

theorem burstFreed_of_fits {s : State} {c : Nat} (h : ∀ k < 16, s.mem.fits (c + k) = true) :
    burstFreed c s = (s.setCopy { s.copy with engine := .idle }).setPort { s.port with holder := .idle } := by
  rw [burstFreed, afterReads_of_fits h]
  rfl

/-- The words of a burst are those of memory at the cursor (R167). -/
theorem burstRun_words (i : WindowId) {m : Memory} {c : Nat} (h : ∀ k < 16, m.fits (c + k) = true) :
    (burstRun i c m).words.length = 16 ∧ ∀ k < 16, ∃ d, (burstRun i c m).words[k]? = some { data := d, mask := 15#4 } ∧
      ∀ b < 4, wordByte d b = m.byte (c + k) b := by
  refine ⟨by simp [burstRun, burstAddresses, Config.burstWords], fun k hk => ⟨m.readWord (c + k), ?_, fun b hb => ?_⟩⟩
  · simp [burstRun, burstAddresses, Config.burstWords, hk]
  · rw [readWord_of_fits (h k hk), wordByte_word m _ hb]

theorem finishBurst_setHost (i : WindowId) (c : Nat) (r : Run) (s : State) (x : HostPort) :
    finishBurst i c r (s.setHost x) = (finishBurst i c r s).setHost x := by
  simp only [finishBurst, append_setHost, State.setHost_table, State.setHost_copy]
  split
  · rw [setHost_setCopy, offerSynced_setHost]
  · rfl

theorem burstEnded_setHost (i : WindowId) (c : Nat) (v : Bool) (s : State) (x : HostPort) :
    burstEnded i c v (s.setHost x) = (burstEnded i c v s).setHost x := by
  unfold burstEnded
  by_cases h : v = true ∨ s.copy.states[i] ≠ .copying c
  · rw [if_pos h, if_pos (by exact h)]
    rfl
  · rw [if_neg h, if_neg (by exact h), ← finishBurst_setHost]
    rfl

/-- The blocks that no end of a burst changes, and the engine that is IDLE after it (R167, R168). -/
theorem burstEnded_blocks (i : WindowId) (c : Nat) (v : Bool) (s : State) :
    (burstEnded i c v s).inReset = s.inReset ∧ (burstEnded i c v s).host = s.host ∧
      (burstEnded i c v s).port = { s.port with holder := .idle } ∧ (burstEnded i c v s).applyq = s.applyq ∧
      (burstEnded i c v s).mem = s.mem.afterReads (burstAddresses c) ∧ (burstEnded i c v s).copy.engine = .idle := by
  unfold burstEnded
  split
  · exact ⟨rfl, rfl, rfl, rfl, rfl, rfl⟩
  · obtain ⟨_, _, hcopy, _⟩ := portQuiet_finishBurst i c (burstRun i c s.mem) (burstFreed c s)
    have hport : (finishBurst i c (burstRun i c s.mem) (burstFreed c s)).port = (burstFreed c s).port := by simp
    refine ⟨by simp, by simp, hport.trans rfl, by simp, by simp, ?_⟩
    obtain heq | ⟨_, heq⟩ := hcopy <;> exact heq

/-- A burst that ends before its window does moves the cursor (R167). -/
theorem finishBurst_of_inside {i : WindowId} {c : Nat} {r : Run} {s : State}
    (h : c + 16 ≠ s.table.active[i].endWord) : finishBurst i c r s =
      (append (.copy r) s).setCopy { (append (.copy r) s).copy with
        states := s.copy.states.set i (.copying (c + 16)) } := by
  have hne : c + Config.burstWords ≠ (append (.copy r) s).table.active[i].endWord := by
    have htable : (append (.copy r) s).table = s.table := by simp
    rw [htable]
    exact h
  simp only [finishBurst, if_neg hne]
  simp [Config.burstWords]

/-- A burst at the end of its window leaves it CLEAN, and offers the SYNCED append (R167, R170). -/
theorem finishBurst_of_end {i : WindowId} {c : Nat} {r : Run} {s : State}
    (h : c + 16 = s.table.active[i].endWord) : finishBurst i c r s =
      offerSynced ((append (.copy r) s).setCopy { (append (.copy r) s).copy with
        states := s.copy.states.set i .clean }) := by
  have heq : c + Config.burstWords = (append (.copy r) s).table.active[i].endWord := by
    have htable : (append (.copy r) s).table = s.table := by simp
    rw [htable]
    exact h
  simp only [finishBurst, if_pos heq]
  simp

/-- What the end of a burst that is not void leaves (R10, R167, R170). -/
theorem finishBurst_leaves {i : WindowId} {c : Nat} {r : Run} {s : State}
    (follows : Bool) (hfollows : follows = true ↔ c + 16 = s.table.active[i].endWord ∧
      syncedDue (s.setCopy { s.copy with states := s.copy.states.set i .clean }) = true ∧
        s.journal.entries.length < 63) :
    (follows = false → (finishBurst i c r s).copy.syncOwed = s.copy.syncOwed ∧
      (finishBurst i c r s).events = s.events ∧ (finishBurst i c r s).journal = appended (.copy r) s.journal) ∧
    (follows = true → (finishBurst i c r s).copy.syncOwed = false ∧
      (finishBurst i c r s).events = (raise .synced s).events ∧
      (finishBurst i c r s).journal = appended (.synced s.journal.generation) (appended (.copy r) s.journal)) := by
  by_cases hend : c + 16 = s.table.active[i].endWord
  · rw [finishBurst_of_end hend]
    generalize hu : (append (.copy r) s).setCopy { (append (.copy r) s).copy with
      states := s.copy.states.set i .clean } = u
    have hjournal : u.journal = appended (.copy r) s.journal := by
      rw [← hu]
      exact appended_of_append (.copy r) s
    have hevents : u.events = s.events := by simp [← hu]
    have howed : u.copy.syncOwed = s.copy.syncOwed := by simp [← hu]
    have hdue : syncedDue u = syncedDue (s.setCopy { s.copy with states := s.copy.states.set i .clean }) := by
      simp [syncedDue, ← hu]
    have hlength : u.journal.entries.length = s.journal.entries.length + 1 := by rw [hjournal, appended_length]
    refine ⟨fun hnot => ?_, fun hyes => ?_⟩
    · have hwaits : syncedDue u = false ∨ 64 ≤ u.journal.entries.length := by
        by_cases hslot : s.journal.entries.length < 63
        · left
          rw [hdue, ← Bool.not_eq_true]
          exact fun hd => absurd (hfollows.mpr ⟨hend, hd, hslot⟩) (by simp [hnot])
        · right
          omega
      rw [offerSynced_of_waiting hwaits]
      exact ⟨howed, hevents, hjournal⟩
    · obtain ⟨_, hd, hslot⟩ := hfollows.mp hyes
      obtain ⟨hj, he, ho, _, _⟩ := offerSynced_due_blocks (hdue.trans hd) (by omega)
      refine ⟨ho, he.trans (raise_events .synced hevents), ?_⟩
      rw [hj, hjournal]
      rfl
  · rw [finishBurst_of_inside hend]
    refine ⟨fun _ => ⟨by simp, by simp, appended_of_append (.copy r) s⟩, fun hyes => absurd (hfollows.mp hyes).1 hend⟩

theorem finishBurst_states (i : WindowId) (c : Nat) (r : Run) (s : State) :
    (finishBurst i c r s).copy.states =
      s.copy.states.set i (if c + 16 = s.table.active[i].endWord then .clean else .copying (c + 16)) ∧
    (finishBurst i c r s).capture = { s.capture with sealTimer := none } := by
  by_cases h : c + 16 = s.table.active[i].endWord
  · rw [finishBurst_of_end h, if_pos h]
    unfold offerSynced
    dsimp only
    split <;> simp
  · rw [finishBurst_of_inside h, if_neg h]
    simp

theorem burstEnded_engineRequests {i : WindowId} {c : Nat} {v : Bool} {s : State} (happly : s.applyq.engine = .idle) :
    engineRequests (burstEnded i c v s) = false := by
  obtain ⟨_, _, _, hq, _, hcopy⟩ := burstEnded_blocks i c v s
  simp [engineRequests, hq, hcopy, happly]

theorem setHost_self {s : State} {x : HostPort} (h : s.host = x) : s.setHost x = s := by
  subst h
  rfl

/-- A write that a soft reset took out of STALLED is performed plainly at its grant (R59). -/
theorem grantHost_of_plainly {s : State} {w : HostWrite} {c : Option Completion}
    (h : s.host = { state := .request (.write w) true true, completion := c }) : grantHost s =
      performWrite w (s.setPort { s.port with lastGrant := .host }) := by
  simp [grantHost, h]

/-- Settles O48: the void burst, the burst that appends, and what waits behind either. -/
theorem burstEnds : Obligations.BurstEnds := by
  intro s i c v hrun hport hengine happly hfits
  refine ⟨fun hvoid hhost => ?void, fun hv hstate hlength hhost => ?appends, fun hslot => ?waiting⟩
  case void =>
    have hended : burstEnded i c v s = burstFreed c s := if_pos hvoid
    rw [exec_copyBurstCompletion hrun hport hengine (hvoid.imp_right .inl),
      arbitrate_of_nothing_waiting ?_ (burstEnded_engineRequests happly), hended, burstFreed_of_fits hfits]
    rw [hended]
    exact hhost
  case appends =>
    have hended : burstEnded i c v s = finishBurst i c (burstRun i c s.mem) (burstFreed c s) :=
      if_neg (by simp [hv, hstate])
    obtain ⟨_, hhost', hport', _, _, hidle⟩ := burstEnded_blocks i c v s
    obtain ⟨hwords, hcells⟩ := burstRun_words i hfits
    have hquiet : arbitrate (burstEnded i c v s) = burstEnded i c v s :=
      arbitrate_of_nothing_waiting (by rw [hostRequests, hhost']; exact hhost) (burstEnded_engineRequests happly)
    rw [hended] at hquiet hidle hport'
    obtain ⟨hstates, hcapture⟩ := finishBurst_states i c (burstRun i c s.mem) (burstFreed c s)
    refine ⟨_, (burstRun i c s.mem).words, (exec_copyBurstCompletion hrun hport hengine (.inr (.inr hlength))).trans
      (congrArg _ ((congrArg arbitrate hended).trans hquiet)), hwords, hcells, ?_, hidle, hstates, fun follows hfollows => ?_⟩
    · apply state_ext
      case hport => exact hport'
      case hcapture => exact hcapture
      case hmem => rw [show (finishBurst i c (burstRun i c s.mem) (burstFreed c s)).mem = (burstFreed c s).mem by simp,
        burstFreed_of_fits hfits]; rfl
      all_goals simp
    · exact finishBurst_leaves (s := burstFreed c s) follows hfollows
  case waiting =>
    have hexec := exec_copyBurstCompletion hrun hport hengine hslot
    obtain ⟨hreset, hhost', hport', _, hmem, _⟩ := burstEnded_blocks i c v s
    rw [afterReads_of_fits hfits] at hmem
    have hidle := exec_copyBurstCompletion (s := s.setHost { state := .idle, completion := none }) hrun hport hengine hslot
    rw [burstEnded_setHost] at hidle
    have hnone := burstEnded_engineRequests (i := i) (c := c) (v := v) happly
    generalize burstEnded i c v s = e at *
    refine ⟨_, hidle, fun txn hhost => ?_, fun w hhost hwf hwfits => ?_⟩
    · rw [hexec, ← setHost_self (hhost'.trans hhost)]
      exact arbitrate_waiting_host (u := e.setHost { state := .idle, completion := none }) txn (hreset.trans hrun) rfl hnone
    · have hwaits := hhost'.trans hhost
      have hgrant : grantHost e = writeGranted w (s.mem.writeWord w.addr.toNat { data := w.data, mask := w.mask })
          (e.setHost { state := .idle, completion := none }) := by
        rw [grantHost_of_plainly hwaits, ← hmem]
        apply state_ext <;> simp [performWrite, writeGranted, hwaits, hport']
      refine ⟨_, ?_, wrote_writeWord { data := w.data, mask := w.mask } hwf hwfits⟩
      rw [hexec, arbitrate_of_nothing_waiting (s := e.setHost { state := .idle, completion := none }) rfl hnone,
        arbitrate_of_host (by rw [hport']) (by simp [hostRequests, hwaits]) hnone
          (by rw [hgrant]; exact settled_writeGranted w _ _), hgrant]

end Sys2Proof.Proofs
end

section
/-! The power-on and pin resets (O4) and the soft reset (O5). -/

namespace Sys2Proof.Proofs

open Sys2Proof.Machine

/-! ## Power-on and pin reset -/

theorem dispatchGood_in_reset {f : Frame} (handle : State → State) {s : State} (hwf : f.wellFormed = true)
    (h : s.inReset = true) : dispatchGood f handle s = .next s := by
  rw [dispatchGood, if_pos hwf, working_in_reset _ s h]

/-- Of an apply operation in progress the words whose accesses had ended are in memory (R58). -/
theorem memoryAtReset_cases (n : Nat) (s : State) :
    (s.port.holder ≠ .apply → memoryAtReset n s = s.mem) ∧
      ∀ e, s.port.holder = .apply → s.applyq.engine = .writing e → 1 ≤ n →
        memoryAtReset n s = s.mem.writeAll (e.content.accesses.take n) := by
  refine ⟨fun hport => ?_, fun e hport hengine hn => ?_⟩
  · unfold memoryAtReset
    split
    · exact absurd ‹_› hport
    · rfl
  · simp [memoryAtReset, hport, hengine, Nat.max_eq_right hn]

/-- Only a reset, the end of one and the edges of CS_N act on a part in reset (R194). -/
theorem exec_in_reset {s : State} {c : Instr} (h : s.inReset = true) (hwf : c.wellFormed = true)
    (hpower : ∀ n, c ≠ .powerOnReset n) (hpin : ∀ n m, c ≠ .pinReset n m) (hend : c ≠ .resetEnd)
    (hselect : c ≠ .managementTransaction) (hdeselect : c ≠ .deselect) : exec c s = .next s := by
  cases c with
  | powerOnReset n => exact absurd rfl (hpower n)
  | pinReset n m => exact absurd rfl (hpin n m)
  | resetEnd => exact absurd rfl hend
  | managementTransaction => exact absurd rfl hselect
  | deselect => exact absurd rfl hdeselect
  | unknownCommand code =>
    show execUnknownCommand code s = _
    simp only [Instr.wellFormed] at hwf
    cases hcode : commandOfByte code with
    | none => simp [execUnknownCommand, hcode, working_in_reset _ s h]
    | some c => simp [hcode] at hwf
  | helloReceived f => exact dispatchGood_in_reset _ hwf h
  | byeReceived r => exact dispatchGood_in_reset (f := .bye r) _ rfl h
  | linkReceived f => exact dispatchGood_in_reset (f := .link f) _ rfl h
  | dataReceived f => exact dispatchGood_in_reset _ hwf h
  | stalledWriteRepresentation => exact working_in_reset (fun s => arbitrate (represent s)) s h
  | characterAlignment cause =>
    exact working_in_reset (fun s => if cause.aligns then s.setRx { s.rx with aligned := true } else s) s h
  | copyBurstCompletion => exact if_pos h
  | _ => exact working_in_reset _ s h

theorem setMgmt_csLow {s : State} {b : Bool} (h : s.mgmt.csLow = b) : s.setMgmt { s.mgmt with csLow := b } = s := by
  subst h
  rfl

/-- Settles O4: the reset state is written out, and a part in reset takes nothing else. -/
theorem powerAndPinReset : Obligations.PowerAndPinReset := by
  refine ⟨fun s lowNs n => ?reset, fun s c h => ⟨rfl, ?select, ?deselect, exec_in_reset h⟩⟩
  case reset =>
    obtain ⟨hkept, hwritten⟩ := memoryAtReset_cases n s
    exact ⟨powerReset n s, rfl, fun hlong => congrArg _ (if_neg (by omega)), fun hshort => congrArg _ (if_pos hshort), rfl,
      hkept, hwritten, rfl, rfl, fun _ => rfl⟩
  case select =>
    show execManagementTransaction s = _
    cases hcs : s.mgmt.csLow with
    | true =>
      rw [setMgmt_csLow hcs]
      simp [execManagementTransaction, hcs]
    | false => simp [execManagementTransaction, hcs, h]
  case deselect =>
    show execDeselect s = _
    cases hcs : s.mgmt.csLow with
    | true => simp [execDeselect, hcs, h]
    | false =>
      rw [setMgmt_csLow hcs]
      simp [execDeselect, hcs]

end Sys2Proof.Proofs
end

section
/-! The soft reset (O5). -/

namespace Sys2Proof.Proofs

open Sys2Proof.Machine

/-! ## The deselect that takes it -/

/-- The part with its Management Port IDLE, at the deselect (R185). -/
abbrev deselected (s : State) : State := s.setMgmt { csLow := false, phase := .idle }

theorem exec_deselect_of_softReset {s : State} {bytes : List Byte} (hrun : s.inReset = false)
    (hmgmt : s.mgmt = { csLow := true, phase := .response bytes true }) :
    exec .deselect s = .next (arbitrate (softResetDone (deselected s))) := by
  show execDeselect s = _
  simp [execDeselect, hmgmt, hrun, deselect, softReset_eq]

/-! ## The blocks after a soft reset -/

/-- The Copy Engine after a soft reset: a burst in progress is void, anything else is IDLE (R175). -/
def softResetEngine : CopyEngine → CopyEngine
  | .reading w c _ => .reading w c true
  | _ => .idle

theorem softResetCopy_copy (s : State) :
    (softResetCopy s).copy = { s.copy with engine := softResetEngine s.copy.engine } := by
  unfold softResetCopy
  split <;> rename_i h <;> simp [h, softResetEngine]
  rw [← h]

/-- A SYNCED append leaves a Copy Engine without a request as it is (R165). -/
theorem offerSynced_engine {s : State} (h : ∀ w c, s.copy.engine ≠ .waiting w c) :
    (offerSynced s).copy.engine = s.copy.engine := by
  obtain heq | ⟨⟨w, c, hw⟩, _⟩ := offerSynced_withdrawn s
  · exact heq
  · exact absurd hw (h w c)

/-- With the seal age timer stopped a SYNCED append leaves the Capture Unit as it is (R13). -/
theorem offerSynced_capture {s : State} (h : s.capture.sealTimer = none) : (offerSynced s).capture = s.capture := by
  have hsame : { s.capture with sealTimer := none } = s.capture := by rw [← h]
  unfold offerSynced
  dsimp only
  split
  · simpa using hsame
  · rfl

theorem softResetEngine_not_waiting (x : CopyEngine) (w : WindowId) (c : Nat) : softResetEngine x ≠ .waiting w c := by
  cases x <;> simp [softResetEngine]

theorem syncedDue_softResetBegun (s : State) : syncedDue (softResetBegun s) = syncedDue s := by
  simp [syncedDue]

/-- What a soft reset leaves before the arbiter, but for the host port (R195). -/
theorem softResetDone_blocks (s : State) :
    (softResetDone s).events = { flags := 0#12, repeats := 0#12, enables := s.events.enables } ∧
    (softResetDone s).capture = { stallTimer := none, sealTimer := none } ∧
    (softResetDone s).copy.states = s.copy.states ∧
    (softResetDone s).copy.engine = softResetEngine s.copy.engine ∧
    (syncedDue s = false → (softResetDone s).copy.syncOwed = s.copy.syncOwed ∧
      (softResetDone s).journal =
        { s.journal with entries := [], sendPoint := s.journal.nextSeq, heldRewind := none }) ∧
    (syncedDue s = true → (softResetDone s).copy.syncOwed = false ∧
      (softResetDone s).journal = { s.journal with
        entries := [newEntry s.journal.nextSeq (.synced s.journal.generation) .ready]
        nextSeq := s.journal.nextSeq + 1#12, sendPoint := s.journal.nextSeq, heldRewind := none }) := by
  have hcopy : (softResetBegun s).copy = { s.copy with engine := softResetEngine s.copy.engine } := by
    rw [← softResetCopy_copy]
    simp
  have hengine : (offerSynced (softResetBegun s)).copy.engine = softResetEngine s.copy.engine := by
    rw [offerSynced_engine (by rw [hcopy]; exact softResetEngine_not_waiting _), hcopy]
  have hjournal := softResetBegun_journal s
  have hdue := syncedDue_softResetBegun s
  refine ⟨?_, ?_, ?_, hengine, fun hnot => ?_, fun hyes => ?_⟩
  · simp [softResetDone, EventUnit.clearAll]
  · show (offerSynced (softResetBegun s)).capture = _
    rw [offerSynced_capture (by simp)]
    simp
  · show (offerSynced (softResetBegun s)).copy.states = _
    rw [offerSynced_states, hcopy]
  · have hsame := offerSynced_of_waiting (s := softResetBegun s) (.inl (hdue.trans hnot))
    simp [softResetDone, hsame, hjournal]
  · obtain ⟨hj, _, howed, _, _⟩ := offerSynced_due_blocks (s := softResetBegun s) (hdue.trans hyes)
      (by rw [hjournal]; simp)
    refine ⟨howed, ?_⟩
    show (offerSynced (softResetBegun s)).journal = _
    rw [hj, hjournal]
    rfl

/-! ## The arbiter after a soft reset -/

/-- With nothing of the host waiting the arbiter can but grant the port to a waiting apply operation (R46). -/
theorem arbitrate_softResetDone {s : State} (h : hostRequests (softResetDone s) = true → s.port.holder ≠ .idle) :
    ∃ y p, arbitrate (softResetDone s) =
        ((softResetDone s).setApplyq { (softResetDone s).applyq with engine := y }).setPort p ∧
      (s.port.holder ≠ .idle → p = s.port) ∧ ∀ e, s.applyq.engine = .writing e → y = .writing e := by
  have hport : (softResetDone s).port = s.port := by simp [softResetDone]
  have hengine : (softResetDone s).applyq.engine = s.applyq.engine := by simp [softResetDone]
  have hnone : ∀ w c, (softResetDone s).copy.engine ≠ .waiting w c := by
    obtain ⟨_, _, _, hcopy, _⟩ := softResetDone_blocks s
    rw [hcopy]
    exact softResetEngine_not_waiting _
  by_cases hbusy : s.port.holder = .idle
  · have hquiet : hostRequests (softResetDone s) = false := by
      cases hr : hostRequests (softResetDone s) with
      | false => rfl
      | true => exact absurd hbusy (h hr)
    rw [arbitrate_of_no_host (by rw [hport, hbusy]) hquiet]
    obtain ⟨e, hw, heq⟩ | ⟨_, w, c, hw, _⟩ | ⟨_, heq⟩ := grantEngine_cases (softResetDone s)
    · refine ⟨_, _, heq, fun hne => absurd hbusy hne, fun e' he' => ?_⟩
      rw [hengine, he'] at hw
      cases hw
    · exact absurd hw (hnone w c)
    · exact ⟨_, _, heq, fun _ => hport, fun e he => hengine.trans he⟩
  · rw [arbitrate_of_busy (by rw [hport]; exact hbusy)]
    exact ⟨_, _, rfl, fun _ => hport, fun e he => hengine.trans he⟩

/-- The host port after a soft reset, its write not STALLED (R59, R86). -/
theorem softResetDone_host {s : State} (h : isStalled s = false) : (softResetDone s).host = (discardJournal s).host := by
  have hnot : ∀ w, (discardJournal s).host.state ≠ .stalled w := fun w hw => by
    obtain heq | ⟨_, _, heq⟩ | ⟨_, _, heq⟩ := discardJournal_eased s
    · rw [heq] at hw
      simp [isStalled, hw] at h
    · rw [heq] at hw
      cases hw
    · rw [heq] at hw
      cases hw
  have hhost : (softResetDone s).host = (softResetHost (discardJournal s)).host := by simp [softResetDone]
  rw [hhost]
  unfold softResetHost
  split
  · exact absurd ‹_› (hnot _)
  · rfl

/-- A write that a soft reset finds STALLED requests the memory port, to be performed plainly (R59, R76). -/
theorem softResetDone_host_of_stalled {s : State} {w : HostWrite}
    (h : s.host = { state := .stalled w, completion := none }) :
    (softResetDone s).host = { state := .request (.write w) true true, completion := none } := by
  have hkept : (discardJournal s).host = { state := .stalled w, completion := none } := by
    rw [discardJournal_host_of_not_held (by simp [h]), h]
  simp [softResetDone, softResetHost, hkept]

/-- Settles O5: the blocks before the arbiter, and the arbiter with nothing of the host but a stalled write waiting. -/
theorem softResetTaken : Obligations.SoftResetTaken := by
  refine ⟨fun s bytes hrun hmgmt hstalled hwaits => ?quiet, fun s bytes w hrun hmgmt hhost happly hfree => ?stalled⟩
  case quiet =>
    have hdone := softResetDone_host (s := deselected s) hstalled
    have hrequests : hostRequests (softResetDone (deselected s)) = true → (deselected s).port.holder ≠ .idle := fun hr => by
      cases hs : hostRequests s with
      | true => exact hwaits hs
      | false =>
        have heased := hostRequests_of_eased (discardJournal_eased (deselected s)) hs
        rw [hostRequests, hdone] at hr
        exact absurd (hr.symm.trans heased) (by decide)
    obtain ⟨y, p, heq, hport, hwriting⟩ := arbitrate_softResetDone hrequests
    obtain ⟨hevents, hcapture, hstates, hengine, hnotdue, hdue⟩ := softResetDone_blocks (deselected s)
    refine ⟨_, (exec_deselect_of_softReset hrun hmgmt).trans (congrArg _ heq), ?_⟩
    have hhold : (softResetDone (deselected s)).hold = (discardJournal (deselected s)).hold := by simp [softResetDone]
    have hcounters : (softResetDone (deselected s)).counters = (discardJournal (deselected s)).counters := by
      simp [softResetDone]
    refine ⟨by simp [softResetDone], by simp [softResetDone], by simp [softResetDone], by simp [softResetDone],
      by simp [softResetDone], fun hbusy => hport hbusy, hevents, hnotdue, hdue, hcapture,
      fun hheld => ⟨?_, ?_, fun w hw => ?_⟩, fun hfree => ⟨?_, ?_, ?_⟩, fun hr => ?_, hstates,
      fun w c v hreading => ?_, fun hnone => ?_, by simp [softResetDone], aborted_of_tx ?_ ?_ ?_, by simp [softResetDone],
      by simp [softResetDone], by simp [softResetDone], by simp [softResetDone], by simp [softResetDone],
      by simp [softResetDone], by simp [softResetDone], by simp [softResetDone], hwriting⟩
    · obtain ⟨hend, _⟩ := discardJournal_of_held (s := deselected s) hheld
      exact hhold.trans hend
    · obtain ⟨_, _, hcount, _⟩ := discardJournal_of_held (s := deselected s) hheld
      exact hcounters.trans hcount
    · obtain ⟨_, _, _, hend⟩ := discardJournal_of_held (s := deselected s) hheld
      exact hdone.trans (hend.trans (endHold_host_of_held _ (deselected s) w hw))
    · obtain ⟨hkept, _⟩ := discardJournal_of_not_held (s := deselected s) hfree
      exact hhold.trans hkept
    · obtain ⟨_, _, hkept, _⟩ := discardJournal_of_not_held (s := deselected s) hfree
      exact hcounters.trans hkept
    · obtain ⟨_, _, _, hkept⟩ := discardJournal_of_not_held (s := deselected s) hfree
      exact hdone.trans hkept
    · refine hdone.trans (discardJournal_host_of_not_held (s := deselected s) fun w hw => ?_)
      simp [hostRequests, show s.host.state = .held w from hw] at hr
    · exact hengine.trans (by simp [hreading, softResetEngine])
    · refine hengine.trans ?_
      cases hc : s.copy.engine <;> simp_all [copyReading, softResetEngine]
    · simpa [softResetDone] using hrun
    · simp [softResetDone]
    · simp [softResetDone]
  case stalled =>
    obtain ⟨hevents, hcapture, _, hengine, hnotdue, _⟩ := softResetDone_blocks (deselected s)
    have hrequest := softResetDone_host_of_stalled (s := deselected s) hhost
    have hport : (softResetDone (deselected s)).port = s.port := by simp [softResetDone]
    have hmem : (softResetDone (deselected s)).mem = s.mem := by simp [softResetDone]
    have hnone : engineRequests (softResetDone (deselected s)) = false := by
      have hq : (softResetDone (deselected s)).applyq.engine = .idle := by simpa [softResetDone] using happly
      unfold engineRequests
      rw [hq, hengine]
      cases (deselected s).copy.engine <;> rfl
    have hcounters : (softResetDone (deselected s)).counters = s.counters := by
      obtain ⟨_, _, hkept, _⟩ := discardJournal_of_not_held (s := deselected s) hfree
      exact (by simp [softResetDone] : _ = (discardJournal (deselected s)).counters).trans hkept
    rw [exec_deselect_of_softReset hrun hmgmt]
    generalize softResetDone (deselected s) = d at *
    have hjournal : syncedDue s = false → d.journal.entries = [] ∧ d.journal.nextSeq = s.journal.nextSeq := fun hd => by
      rw [(hnotdue hd).2]
      exact ⟨rfl, rfl⟩
    by_cases hidle : s.port.holder = .idle
    · have hgrant : grantHost d = writeGranted w (s.mem.writeWord w.addr.toNat { data := w.data, mask := w.mask }) d := by
        rw [grantHost_of_plainly hrequest, ← hmem]
        apply state_ext <;> simp [performWrite, writeGranted, hrequest]
      rw [arbitrate_of_host (by rw [hport, hidle]) (by simp [hostRequests, hrequest]) hnone
        (by rw [hgrant]; exact settled_writeGranted w _ _), hgrant]
      exact ⟨_, rfl, hcounters, by simp [writeGranted, hcapture], hevents, hjournal, fun hbusy => absurd hidle hbusy,
        fun _ hfits hwf => ⟨rfl, rfl, wrote_writeWord { data := w.data, mask := w.mask } hwf hfits⟩⟩
    · rw [arbitrate_of_busy (by rw [hport]; exact hidle)]
      exact ⟨d, rfl, hcounters, by simp [hcapture], hevents, hjournal, fun _ => ⟨hrequest, hport, hmem⟩,
        fun h => absurd h hidle⟩

end Sys2Proof.Proofs
end

section
/-! PROOF. The Management Port: how a transaction begins and ends, that the bytes of a command may come in pieces, and
the command that the bytes of a transaction spell (12.1, 12.2, 13.3). -/

namespace Sys2Proof.Proofs

open Sys2Proof.Machine

/-! ## Argument bytes in pieces -/

/-- An answer with another Management Port. -/
def onMgmt (m : MgmtPort) (a : Answer) : Answer := { a with state := a.state.setMgmt m }

@[simp] theorem onMgmt_answer (m : MgmtPort) (r : Result) (s : State) :
    onMgmt m (answer r s) = answer r (s.setMgmt m) := rfl

/-- An effect that does not look at the Management Port. -/
def PortBlind (effect : List Byte → State → Answer) : Prop :=
  ∀ (args : List Byte) (s : State) (m : MgmtPort), effect args (s.setMgmt m) = onMgmt m (effect args s)

/-- An effect that does not look at the Management Port leaves it as it is. -/
theorem PortBlind.mgmt {effect : List Byte → State → Answer} (h : PortBlind effect) (args : List Byte) (s : State) :
    (effect args s).state.mgmt = s.mgmt :=
  congrArg (fun a => a.state.mgmt) (h args s s.mgmt)

/-- The response to an effect that does not look at the Management Port does not depend on the phase it is formed
in. -/
theorem PortBlind.respond_eq {effect : List Byte → State → Answer} (h : PortBlind effect) (softReset : Bool)
    (args : List Byte) (s : State) (phase : MgmtPhase) :
    respond softReset (effect args (s.setMgmt { s.mgmt with phase := phase })) =
      respond softReset (effect args s) := by
  rw [h, respond, respond, h.mgmt]
  rfl

/-- Further argument bytes of a command in ARGUMENTS act as if all had come in COMMAND. -/
theorem takeCommand_rest {cmd : MgmtCommand} {effect : List Byte → State → Answer} (hblind : PortBlind effect)
    {s : State} (hphase : s.mgmt.phase = .command) (a b : List Byte) :
    takeCommand cmd b effect (s.setMgmt { s.mgmt with phase := .arguments cmd a }) =
      takeCommand cmd (a ++ b) effect s := by
  have hfirst : takeCommand cmd (a ++ b) effect s = feedCommand cmd (a ++ b) effect s := by simp [takeCommand, hphase]
  have hsecond : takeCommand cmd b effect (s.setMgmt { s.mgmt with phase := .arguments cmd a }) =
      feedCommand cmd (a ++ b) effect (s.setMgmt { s.mgmt with phase := .arguments cmd a }) := by simp [takeCommand]
  rw [hfirst, hsecond]
  by_cases hshort : (a ++ b).length < cmd.argCount
  · simp only [feedCommand, if_pos hshort]
    rfl
  · simp only [feedCommand, if_neg hshort]
    exact hblind.respond_eq _ _ _ _

/-- A command with fewer argument bytes than it takes waits in ARGUMENTS, where SDO carries 0x00; the same command
with the rest acts as if they had come at once. -/
theorem argumentsInPieces {instr : List Byte → Instr} (cmd : MgmtCommand) {effect : List Byte → State → Answer}
    (hexec : ∀ args s, exec (instr args) s = working (takeCommand cmd args effect) s) (hblind : PortBlind effect)
    {s : State} (hs : Commanded s) {a : List Byte} (b : List Byte) (hshort : a.length < cmd.argCount) :
    ∃ u, exec (instr a) s = .next u ∧ u = s.setMgmt { s.mgmt with phase := u.mgmt.phase } ∧
      (∀ k, sdoByte u k = some 0x00#8) ∧ exec (instr b) u = exec (instr (a ++ b)) s := by
  obtain ⟨hrun, hphase⟩ := hs
  refine ⟨s.setMgmt { s.mgmt with phase := .arguments cmd a }, ?_, rfl, fun _ => rfl, ?_⟩
  · rw [hexec, working_of_running _ s hrun, takeCommand_short cmd a effect s hphase hshort]
  · rw [hexec, hexec, working_of_running _ s hrun, working_of_running _ _ (by exact hrun),
      takeCommand_rest hblind hphase a b]

theorem portBlind_clearEvents : PortBlind clearEventsEffect := fun _ _ _ => rfl

theorem portBlind_setEnables : PortBlind setEnablesEffect := fun _ _ _ => rfl

theorem portBlind_readCounter : PortBlind readCounterEffect := fun args s m => by
  unfold readCounterEffect
  split <;> rfl

theorem portBlind_readWindow : PortBlind readWindowEffect := fun args s m => by
  simp only [readWindowEffect, State.setMgmt_table]
  (repeat' split) <;> rfl

theorem portBlind_readCopyState : PortBlind readCopyStateEffect := fun args s m => by
  unfold readCopyStateEffect
  cases idOfByte (argByte args 0) with
  | none => rfl
  | some id =>
    simp only [State.setMgmt_copy]
    cases s.copy.states[id] <;> rfl

theorem portBlind_readConfig : PortBlind readConfigEffect := fun args s m => by
  unfold readConfigEffect
  rw [State.setMgmt_params]
  split <;> rfl

theorem portBlind_writeStagedWindow : PortBlind writeStagedWindowEffect := fun args s m => by
  unfold writeStagedWindowEffect
  cases stagedArguments args with
  | none =>
    simp [apply_ite (onMgmt m)]
    rfl
  | some p => simp [apply_ite (onMgmt m)]

theorem portBlind_setConfig : PortBlind setConfigEffect := fun args s m => by
  simp [setConfigEffect, apply_ite (onMgmt m)]
  rfl

theorem portBlind_setRole : PortBlind setRoleEffect := fun args s m => by
  unfold setRoleEffect
  cases roleOfByte (argByte args 0) with
  | none => rfl
  | some r => simp [apply_ite (onMgmt m)]

theorem portBlind_promote : PortBlind promoteEffect := fun args s m => by
  unfold promoteEffect
  cases boolOfByte (argByte args 0) with
  | none => rfl
  | some force => by_cases hempty : s.applyq.count = 0 <;> simp [hempty, apply_ite (onMgmt m)]

/-- Every command with argument bytes takes them in pieces. -/
theorem argumentCommands_inPieces {s : State} (hs : Commanded s) :
    ∀ p ∈ argumentCommands, ∀ a b : List Byte, a.length < p.2 →
      ∃ u, exec (p.1 a) s = .next u ∧ u = s.setMgmt { s.mgmt with phase := u.mgmt.phase } ∧
        (∀ k, sdoByte u k = some 0x00#8) ∧ exec (p.1 b) u = exec (p.1 (a ++ b)) s := by
  intro p hp a b hshort
  simp only [argumentCommands, List.mem_cons, List.not_mem_nil, or_false] at hp
  rcases hp with rfl | rfl | rfl | rfl | rfl | rfl | rfl | rfl | rfl | rfl
  · exact argumentsInPieces .clearEvents (fun _ _ => rfl) portBlind_clearEvents hs b hshort
  · exact argumentsInPieces .setEnables (fun _ _ => rfl) portBlind_setEnables hs b hshort
  · exact argumentsInPieces .readCounter (fun _ _ => rfl) portBlind_readCounter hs b hshort
  · exact argumentsInPieces .writeStagedWindow (fun _ _ => rfl) portBlind_writeStagedWindow hs b hshort
  · exact argumentsInPieces .readWindow (fun _ _ => rfl) portBlind_readWindow hs b hshort
  · exact argumentsInPieces .readCopyState (fun _ _ => rfl) portBlind_readCopyState hs b hshort
  · exact argumentsInPieces .setConfig (fun _ _ => rfl) portBlind_setConfig hs b hshort
  · exact argumentsInPieces .readConfig (fun _ _ => rfl) portBlind_readConfig hs b hshort
  · exact argumentsInPieces .setRole (fun _ _ => rfl) portBlind_setRole hs b hshort
  · exact argumentsInPieces .promote (fun _ _ => rfl) portBlind_promote hs b hshort

/-! ## The bytes of a transaction -/

/-- The word of n bytes lies below 256 to the n. -/
theorem wordOf_lt (l : List Byte) : wordOf l < 2 ^ (8 * l.length) := by
  induction l with
  | nil => exact Nat.one_pos
  | cons b rest ih =>
    have hb := b.isLt
    have hpow : 2 ^ (8 * (rest.length + 1)) = 256 * 2 ^ (8 * rest.length) := by
      rw [Nat.mul_add, pow_add, Nat.mul_comm]
      norm_num
    rw [wordOf, List.length_cons, hpow]
    omega

/-- The bytes of the word of a list of bytes are those bytes, and whatever follows is cut off. -/
theorem take_bytesOfWord_wordOf (l : List Byte) :
    ∀ n, l.length ≤ n → (bytesOfWord n (wordOf l)).take l.length = l := by
  induction l with
  | nil => intro n _; rfl
  | cons b rest ih =>
    intro n hn
    obtain ⟨n, rfl⟩ : ∃ m, n = m + 1 := ⟨n - 1, by simp at hn; omega⟩
    have hb := b.isLt
    have hlow : BitVec.ofNat 8 (wordOf (b :: rest)) = b := by
      apply BitVec.eq_of_toNat_eq
      simp [wordOf]
      omega
    have hhigh : wordOf (b :: rest) / 256 = wordOf rest := by
      rw [wordOf]
      omega
    rw [bytesOfWord, hlow, hhigh, List.length_cons, List.take_succ_cons, ih n (by simpa using hn)]

theorem commandOfByte_code (c : MgmtCommand) : commandOfByte c.code = some c := by
  cases c <;> rfl

theorem argCount_le (c : MgmtCommand) : c.argCount ≤ 7 := by
  cases c <;> decide

/-- The command byte of a command with its argument bytes spells that command. -/
theorem decodeTableWord_command (c : MgmtCommand) {args : List Byte} (hlen : args.length = c.argCount) :
    decodeTableWord (8 * (1 + c.argCount)) (wordOf (c.code :: args)) = some (c.instr args) := by
  have hmod : wordOf (c.code :: args) % 2 ^ (8 * (1 + c.argCount)) = wordOf (c.code :: args) := by
    apply Nat.mod_eq_of_lt
    have h := wordOf_lt (c.code :: args)
    rwa [List.length_cons, hlen, Nat.add_comm] at h
  have hbytes := take_bytesOfWord_wordOf (c.code :: args) 8 (by
    have := argCount_le c
    simp [hlen]
    omega)
  rw [decodeTableWord, if_neg (by omega), hmod]
  rw [bytesOfWord, List.length_cons, List.take_succ_cons, List.cons.injEq, hlen] at hbytes
  obtain ⟨hcode, hargs⟩ := hbytes
  rw [bytesOfWord, decodeTransaction, hcode, commandOfByte_code]
  exact congrArg (fun l => some (c.instr l)) hargs

theorem commandOfByte_eq_none {code : Byte} (h : ∀ c ∈ mgmtCommands, c.code ≠ code) : commandOfByte code = none := by
  rw [commandOfByte, List.find?_eq_none]
  intro c hc
  simpa using h c hc

/-- A byte that names no command spells UNKNOWN. -/
theorem decodeTableWord_unknown {code : Byte} (h : ∀ c ∈ mgmtCommands, c.code ≠ code) :
    decodeTableWord 8 code.toNat = some (.unknownCommand code) := by
  have hmod : code.toNat % 2 ^ 8 = code.toNat := Nat.mod_eq_of_lt code.isLt
  have hbyte : BitVec.ofNat 8 code.toNat = code := by simp
  rw [decodeTableWord, if_neg (by omega), hmod, bytesOfWord, decodeTransaction, hbyte, commandOfByte_eq_none h]

/-! ## Transactions -/

/-- Settles O6: no effect looks at the Management Port, so the phase its bytes came in makes no difference. -/
theorem transactionsBeginAndEnd : Obligations.TransactionsBeginAndEnd := by
  refine ⟨fun s hrun => ⟨fun hcs => ?_, fun hcs hphase => ?_, fun hphase => ?_, fun code hphase hnone => ?_⟩,
    fun s hs => argumentCommands_inPieces hs, fun c _ args hlen => decodeTableWord_command c hlen,
    fun code h => decodeTableWord_unknown h⟩
  · show execManagementTransaction s = _
    simp [execManagementTransaction, hcs, hrun]
  · show execDeselect s = _
    simp only [execDeselect, hcs, hrun]
    cases hp : s.mgmt.phase <;> simp_all [deselect]
  · exact working_takeCommand_of_commanded .softReset [] softResetEffect s ⟨hrun, hphase⟩ rfl
  · show execUnknownCommand code s = _
    simp [execUnknownCommand, commandOfByte_eq_none hnone, working_of_running _ s hrun, takeUnknown, hphase, respond,
      answer, Result.byte]

end Sys2Proof.Proofs
end

section
/-! PROOF. Characters: what a made character shows at each bit time, and which characters are invalid (6.2, 13.1). -/

namespace Sys2Proof.Proofs

open Sys2Proof.Machine

/-! ## A made character -/

/-- The flag and the byte of a character, bit times 1 to 9. -/
def characterBody (flag : Bool) (value : Byte) : BitVec 9 := BitVec.ofBool flag ++ value

/-- The parity bit that makes the ones of a flag and a byte odd. -/
def parityBit (flag : Bool) (value : Byte) : Bool :=
  !((List.range 9).map (fun k => (characterBody flag value).getLsbD k)).foldl xor false

theorem getLsbD_characterBody (flag : Bool) (value : Byte) (k : Nat) :
    (characterBody flag value).getLsbD k =
      if k < 8 then value.getLsbD k else (BitVec.ofBool flag).getLsbD (k - 8) :=
  BitVec.getLsbD_append (x := BitVec.ofBool flag) (y := value) (i := k)

/-- The bits of a made character from the stop bit up: stop, parity, byte and flag, start. -/
theorem getLsbD_makeCharacter (flag : Bool) (value : Byte) (k : Nat) :
    (makeCharacter flag value).getLsbD k =
      if k < 1 then (1#1).getLsbD k
      else if k - 1 < 1 then (BitVec.ofBool (parityBit flag value)).getLsbD (k - 1)
      else if k - 1 - 1 < 9 then (characterBody flag value).getLsbD (k - 1 - 1)
      else (0#1).getLsbD (k - 1 - 1 - 9) := by
  refine (BitVec.getLsbD_append (y := 1#1) (i := k)
    (x := 0#1 ++ characterBody flag value ++ BitVec.ofBool (parityBit flag value))).trans ?_
  rw [BitVec.getLsbD_append, BitVec.getLsbD_append]

theorem charBit_makeCharacter_start (flag : Bool) (value : Byte) : charBit (makeCharacter flag value) 0 = false := by
  rw [charBit, getLsbD_makeCharacter]
  simp

theorem charBit_makeCharacter_flag (flag : Bool) (value : Byte) : charBit (makeCharacter flag value) 1 = flag := by
  have htop : (characterBody flag value).getLsbD 8 = flag := by
    rw [getLsbD_characterBody]
    simp
  rw [charBit, getLsbD_makeCharacter]
  simpa using htop

theorem charBit_makeCharacter_stop (flag : Bool) (value : Byte) : charBit (makeCharacter flag value) 11 = true := by
  rw [charBit, getLsbD_makeCharacter]
  simp

theorem charValue_makeCharacter (flag : Bool) (value : Byte) : charValue (makeCharacter flag value) = value := by
  apply BitVec.eq_of_getLsbD_eq
  intro i hi
  have hbit : (makeCharacter flag value).getLsbD (2 + i) = value.getLsbD i := by
    have hbyte : 2 + i - 1 - 1 = i := by omega
    rw [getLsbD_makeCharacter, if_neg (by omega), if_neg (by omega), if_pos (by omega), hbyte, getLsbD_characterBody,
      if_pos hi]
  rw [← hbit]
  simp [charValue, hi]

/-- The ten bits from the flag to the parity hold an odd number of ones. -/
theorem parityOdd_makeCharacter (flag : Bool) (value : Byte) : parityOdd (makeCharacter flag value) = true := by
  simp only [parityOdd, charBit, getLsbD_makeCharacter, parityBit, List.range, List.range.loop]
  simp

/-- A made character decodes by its flag and its byte alone. -/
theorem decodeCharacter_makeCharacter (flag : Bool) (value : Byte) :
    decodeCharacter (makeCharacter flag value) =
      if flag = false then .data value
      else if value = 0x00#8 then .fill
      else if value = 0x01#8 then .start
      else if value = 0x02#8 then .stop
      else if value = 0x03#8 then .abort
      else .invalid := by
  rw [decodeCharacter, charBit_makeCharacter_stop, parityOdd_makeCharacter, charBit_makeCharacter_flag,
    charValue_makeCharacter]
  simp

/-- A symbol's character is a made one that decodes to the symbol. -/
theorem encodeSymbol_made {sym : Symbol} {c : Character} (h : encodeSymbol sym = some c) :
    ∃ flag value, c = makeCharacter flag value ∧ decodeCharacter c = sym := by
  cases sym <;> cases h <;> exact ⟨_, _, rfl, by rw [decodeCharacter_makeCharacter]; simp⟩

/-! ## Invalid characters -/

theorem decodeCharacter_invalid_iff (c : Character) :
    decodeCharacter c = .invalid ↔
      (charBit c 1 = true ∧ 4 ≤ (charValue c).toNat) ∨ parityOdd c = false ∨ charBit c 11 = false := by
  cases hstop : charBit c 11
  · simp [decodeCharacter, hstop]
  cases hparity : parityOdd c
  · simp [decodeCharacter, hstop, hparity]
  cases hflag : charBit c 1
  · simp [decodeCharacter, hstop, hparity, hflag]
  have hvalue : 4 ≤ (charValue c).toNat ↔
      charValue c ≠ 0x00#8 ∧ charValue c ≠ 0x01#8 ∧ charValue c ≠ 0x02#8 ∧ charValue c ≠ 0x03#8 := by
    bv_omega
  simp only [decodeCharacter, hstop, hparity, hflag, hvalue]
  split_ifs <;> simp_all

/-- Settles O50, from the bits of a made character and the branches of the decoder. -/
theorem charactersReadBack : Obligations.CharactersReadBack := by
  refine ⟨fun sym c h => ?_, fun sym hvalid => ?_, decodeCharacter_invalid_iff, by decide +kernel⟩
  · obtain ⟨flag, value, rfl, hdecode⟩ := encodeSymbol_made h
    exact ⟨hdecode, charBit_makeCharacter_start flag value, charBit_makeCharacter_stop flag value⟩
  · cases sym with
    | invalid => exact absurd rfl hvalid
    | _ => exact ⟨_, rfl⟩

end Sys2Proof.Proofs
end

section
/-! PROOF. The CRC of a frame, and each field of a frame read back from its bytes (6.2, 13.2). -/

namespace Sys2Proof.Proofs

open Sys2Proof.Machine

/-! ## The CRC register -/

/-- A bit of the register with its top bit clear is a shift. -/
theorem crcBit_toNat {r : BitVec 16} (h : r.toNat < 2 ^ 15) : (crcBit r).toNat = 2 * r.toNat := by
  have htop : r.getLsbD 15 = false := Nat.testBit_lt_two_pow h
  rw [crcBit, htop]
  simp [BitVec.toNat_shiftLeft, Nat.shiftLeft_eq]
  omega

/-- A byte taken into a register in which it clears the upper half moves the lower half up. -/
theorem crcByte_toNat {r : BitVec 16} {b : Byte} (h : (r ^^^ (b ++ 0#8)).toNat < 256) :
    (crcByte r b).toNat = 256 * (r ^^^ (b ++ 0#8)).toNat := by
  rw [crcByte]
  generalize r ^^^ (b ++ 0#8) = x at *
  have h1 := crcBit_toNat (r := x) (by omega)
  have h2 := crcBit_toNat (r := crcBit x) (by omega)
  have h3 := crcBit_toNat (r := crcBit (crcBit x)) (by omega)
  have h4 := crcBit_toNat (r := crcBit (crcBit (crcBit x))) (by omega)
  have h5 := crcBit_toNat (r := crcBit (crcBit (crcBit (crcBit x)))) (by omega)
  have h6 := crcBit_toNat (r := crcBit (crcBit (crcBit (crcBit (crcBit x))))) (by omega)
  have h7 := crcBit_toNat (r := crcBit (crcBit (crcBit (crcBit (crcBit (crcBit x)))))) (by omega)
  have h8 := crcBit_toNat (r := crcBit (crcBit (crcBit (crcBit (crcBit (crcBit (crcBit x))))))) (by omega)
  omega

theorem append_zero_toNat (b : Byte) : (b ++ 0#8 : BitVec 16).toNat = 256 * b.toNat := by
  rw [BitVec.toNat_append]
  simp [Nat.shiftLeft_eq, Nat.mul_comm]

/-- A 16-bit value is its two bytes, the upper one first. -/
theorem append_bytes (v : BitVec 16) : ((v >>> 8).truncate 8 ++ v.truncate 8 : BitVec 16) = v := by
  apply BitVec.eq_of_getLsbD_eq
  intro i hi
  simp only [BitVec.getLsbD_append, BitVec.truncate_eq_setWidth, BitVec.getLsbD_setWidth, BitVec.getLsbD_ushiftRight]
  grind

/-- The upper byte of a register clears its upper half. -/
theorem xor_upper (r : BitVec 16) :
    r ^^^ ((r >>> 8).truncate 8 ++ 0#8 : BitVec 16) = (0#8 ++ r.truncate 8 : BitVec 16) := by
  have h : r ^^^ ((r >>> 8).truncate 8 ++ 0#8 : BitVec 16) =
      ((r >>> 8).truncate 8 ++ r.truncate 8 : BitVec 16) ^^^ ((r >>> 8).truncate 8 ++ 0#8 : BitVec 16) := by
    rw [append_bytes]
  rw [h, BitVec.xor_append, BitVec.xor_self, BitVec.xor_zero]

theorem xor_upper_toNat (r : BitVec 16) :
    (r ^^^ ((r >>> 8).truncate 8 ++ 0#8 : BitVec 16)).toNat = r.toNat % 256 := by
  rw [xor_upper, BitVec.toNat_append]
  simp

/-- The register after its own two bytes is 0 (R95). -/
theorem crcByte_own (r : BitVec 16) : (be16Bytes r).foldl crcByte r = 0#16 := by
  have hfirst := crcByte_toNat (r := r) (b := (r >>> 8).truncate 8) (by rw [xor_upper_toNat]; omega)
  rw [xor_upper_toNat] at hfirst
  have hreg : crcByte r ((r >>> 8).truncate 8) = (r.truncate 8 : Byte) ++ 0#8 := by
    apply BitVec.eq_of_toNat_eq
    rw [hfirst, append_zero_toNat]
    simp
  have hclear : ((r.truncate 8 : Byte) ++ 0#8 : BitVec 16) ^^^ ((r.truncate 8 : Byte) ++ 0#8) = 0#16 := BitVec.xor_self
  have hsecond := crcByte_toNat (r := (r.truncate 8 : Byte) ++ 0#8) (b := r.truncate 8) (by rw [hclear]; decide)
  rw [hclear] at hsecond
  rw [be16Bytes, List.foldl_cons, List.foldl_cons, List.foldl_nil, hreg]
  exact BitVec.eq_of_toNat_eq hsecond

/-- The bytes of a frame with its CRC leave the register at 0 (R95). -/
theorem crc16_withCrc (bytes : List Byte) : crc16 (withCrc bytes) = 0#16 := by
  rw [withCrc, crc16, List.foldl_append]
  exact crcByte_own _

/-! ## Fields -/

theorem be16_split (v : BitVec 16) : be16 ((v >>> 8).truncate 8) (v.truncate 8) = v :=
  append_bytes v

/-- A sequence field reads back (R197). -/
theorem seqOfBytes_split (q : Seq) :
    seqOfBytes ((q.zeroExtend 16 >>> 8).truncate 8) ((q.zeroExtend 16).truncate 8) = q := by
  rw [seqOfBytes, be16_split]
  simp

/-- A data word reads back from its four bytes. -/
theorem wordOfBytes_wordByte (w : Word) :
    wordOfBytes (wordByte w 3) (wordByte w 2) (wordByte w 1) (wordByte w 0) = w := by
  apply BitVec.eq_of_getLsbD_eq
  intro i hi
  simp only [wordByte, wordOfBytes, BitVec.truncate_eq_setWidth, BitVec.getLsbD_setWidth, BitVec.getLsbD_ushiftRight,
    BitVec.getLsbD_append]
  grind

/-- The two bits of the flags byte of a LINK frame. -/
theorem linkFlags_bits (f : LinkFrame) : f.flags.getLsbD 0 = f.nak ∧ f.flags.getLsbD 1 = f.reject := by
  rw [LinkFrame.flags]
  generalize f.nak = n
  generalize f.reject = r
  revert n r
  decide

/-- The four bits of the flags byte of a HELLO frame. -/
theorem helloFlags_bits (f : HelloFrame) :
    f.flags.getLsbD 0 = f.seen ∧ f.flags.getLsbD 1 = f.fresh ∧ f.flags.getLsbD 2 = f.consistent ∧
      f.flags.getLsbD 3 = f.reject := by
  rw [HelloFrame.flags]
  generalize f.seen = a
  generalize f.fresh = b
  generalize f.consistent = c
  generalize f.reject = d
  revert a b c d
  decide

/-- A mask reads back from its byte, which is at most 15. -/
theorem maskByte_reads (m : Mask) : (m.zeroExtend 8).toNat ≤ 15 ∧ (m.zeroExtend 8).truncate 4 = m := by
  refine ⟨?_, by simp⟩
  have := m.isLt
  simp
  omega

/-- The three bytes of a start address give it back. -/
theorem startBytes_read {n : Nat} (h : n < 16777216) :
    (BitVec.ofNat 8 (n / 65536)).toNat * 65536 + (BitVec.ofNat 8 (n / 256)).toNat * 256 + (BitVec.ofNat 8 n).toNat = n := by
  simp only [BitVec.toNat_ofNat]
  omega

theorem byteOfNat_toNat {n : Nat} (h : n < 256) : (BitVec.ofNat 8 n).toNat = n := by
  simp [h]

/-! ## Words, runs and records -/

/-- The words of a run read back, with what follows them. -/
theorem parseWords_bytes (ws : List MaskedWord) (rest : List Byte) :
    parseWords ws.length (ws.flatMap MaskedWord.bytes ++ rest) = some (ws, rest) := by
  induction ws with
  | nil => rfl
  | cons w ws ih =>
    obtain ⟨hmask, hback⟩ := maskByte_reads w.mask
    simp only [List.flatMap_cons, List.length_cons, MaskedWord.bytes, List.cons_append, List.nil_append, parseWords,
      hmask, if_true, ih, hback, wordOfBytes_wordByte]

/-- Well-formed runs read back, with what follows them. -/
theorem parseRuns_bytes (rs : List Run) (hrs : ∀ r ∈ rs, r.wellFormed = true) (rest : List Byte) :
    parseRuns rs.length (rs.flatMap Run.bytes ++ rest) = some (rs, rest) := by
  induction rs with
  | nil => rfl
  | cons r rs ih =>
    have hr := hrs r (by simp)
    simp only [Run.wellFormed, Bool.and_eq_true, decide_eq_true_eq] at hr
    obtain ⟨⟨⟨hwindow, hstart⟩, _⟩, hlen⟩ := hr
    simp only [List.flatMap_cons, List.length_cons, Run.bytes, List.cons_append, List.nil_append, List.append_assoc,
      parseRuns, byteOfNat_toNat hwindow, startBytes_read hstart, byteOfNat_toNat (show r.words.length < 256 by omega),
      parseWords_bytes, ih fun q hq => hrs q (by simp [hq])]

/-- In a concatenation of pieces of one length, the bytes of piece i stand together. -/
theorem getElem?_flatMap_of_length {α β : Type} {f : α → List β} {n : Nat} (hf : ∀ x, (f x).length = n)
    (l : List α) (i k : Nat) (hk : k < n) : (l.flatMap f)[n * i + k]? = l[i]?.bind fun x => (f x)[k]? := by
  induction l generalizing i with
  | nil => rfl
  | cons x l ih =>
    rw [List.flatMap_cons]
    cases i with
    | zero => rw [List.getElem?_append_left (by rw [hf]; omega)]; simp
    | succ i =>
      have hrest : n * (i + 1) + k - (f x).length = n * i + k := by
        rw [hf, Nat.mul_add]
        omega
      rw [List.getElem?_append_right (by rw [hf, Nat.mul_add]; omega), hrest, ih]
      simp

theorem windowBytes_length (w : Window) : w.bytes.length = 6 := rfl

/-- A record within its ranges reads back from its place among the records of a TABLE body. -/
theorem parseRecord_bytes (b : Bank) (i : WindowId) (h : b[i].inRange = true) :
    parseRecord (windowIds.flatMap fun j => b[j].bytes) i = some b[i] := by
  have hat : ∀ k < 6, (windowIds.flatMap fun j => b[j].bytes).getD (6 * i.val + k) 0#8 = b[i].bytes.getD k 0#8 := by
    intro k hk
    have hpiece := getElem?_flatMap_of_length (f := fun j : WindowId => b[j].bytes) (fun j => windowBytes_length b[j])
      windowIds i.val k hk
    have hid : windowIds[i.val]? = some i := by simp [windowIds]
    rw [hid] at hpiece
    rw [List.getD_eq_getElem?_getD, hpiece, List.getD_eq_getElem?_getD]
    rfl
  simp only [Window.inRange, Bool.and_eq_true, decide_eq_true_eq] at h
  obtain ⟨⟨hbase, _⟩, hcount⟩ := h
  have hpresent : (windowIds.flatMap fun j => b[j].bytes).getD (6 * i.val) 0#8 = boolByte b[i].present := hat 0 (by omega)
  simp only [parseRecord, hat 1 (by omega), hat 2 (by omega), hat 3 (by omega), hat 4 (by omega), hat 5 (by omega),
    Nat.add_zero, hpresent]
  generalize b[i] = w at *
  simp only [Window.bytes, be16Bytes, List.cons_append, List.nil_append, List.getD_cons_succ, List.getD_cons_zero,
    boolOfByte_boolByte, modeOfByte_modeByte, be16_split]
  cases w
  simp_all
  omega

/-! ## The body of a frame -/

/-- The content of a well-formed DATA frame reads back. -/
theorem parseContent_bytes (c : Content) (h : c.wellFormed = true) : parseContent c.bytes = some c := by
  cases c with
  | write rs =>
    simp only [Content.wellFormed, Bool.and_eq_true, decide_eq_true_eq, List.all_eq_true] at h
    obtain ⟨⟨⟨⟨_, hlen⟩, hruns⟩, _⟩, _⟩ := h
    have hparse := parseRuns_bytes rs hruns []
    rw [List.append_nil] at hparse
    simp only [Content.bytes, List.cons_append, List.nil_append, parseContent,
      byteOfNat_toNat (show rs.length < 256 by omega), hparse]
  | copy r =>
    simp only [Content.wellFormed, Bool.and_eq_true] at h
    obtain ⟨⟨hrun, _⟩, _⟩ := h
    have hparse := parseRuns_bytes [r] (by simpa using hrun) []
    rw [List.append_nil, List.flatMap_singleton] at hparse
    simp only [Content.bytes, List.cons_append, List.nil_append, parseContent]
    rw [show parseRuns 1 r.bytes = _ from hparse]
  | table records complete =>
    simp only [Content.wellFormed, List.all_eq_true] at h
    have hparse : ∀ i, parseRecord (windowIds.flatMap fun j => records[j].bytes) i = some records[i] :=
      fun i => parseRecord_bytes records i (h i (by simp [windowIds]))
    have hlen : (windowIds.flatMap fun j => records[j].bytes).length = 96 := by
      simp [List.length_flatMap, windowBytes_length, windowIds]
    simp only [Content.bytes, List.cons_append, List.nil_append, parseContent, boolOfByte_boolByte, hlen, hparse,
      Option.getD_some, Option.isSome_some]
    simp
  | generation g => exact congrArg (fun v => some (Content.generation v)) (be16_split g)
  | synced g => exact congrArg (fun v => some (Content.synced v)) (be16_split g)

end Sys2Proof.Proofs
end

section
/-! PROOF. The five checks of the receiver: every well-formed frame passes them with every field, each check refuses in
its turn, and what passes is a well-formed frame of its own length (6.2, 6.3, 13.2). -/

namespace Sys2Proof.Proofs

open Sys2Proof.Machine

/-! ## Frames by their types -/

def frameType : Frame → FrameType
  | .data _ => .data
  | .link _ => .link
  | .hello _ => .hello
  | .bye _ => .bye

def typeByte : FrameType → Byte
  | .data => 0x01#8
  | .link => 0x02#8
  | .hello => 0x03#8
  | .bye => 0x04#8

@[simp] theorem frameTypeOfByte_typeByte (t : FrameType) : frameTypeOfByte (typeByte t) = some t := by
  cases t <;> rfl

theorem body_eq (f : Frame) : f.body = typeByte (frameType f) :: f.body.tail := by
  cases f <;> rfl

/-- Outside the four codes a byte is the type of no frame (R96). -/
theorem frameTypeOfByte_eq_none {b : Byte} (h : b = 0x00#8 ∨ 5 ≤ b.toNat) : frameTypeOfByte b = none := by
  have h1 : b ≠ 0x01#8 := by rintro rfl; simp at h
  have h2 : b ≠ 0x02#8 := by rintro rfl; simp at h
  have h3 : b ≠ 0x03#8 := by rintro rfl; simp at h
  have h4 : b ≠ 0x04#8 := by rintro rfl; simp at h
  simp [frameTypeOfByte, h1, h2, h3, h4]

/-- What the last two checks make of a frame of a type (R101). -/
def judgeTyped (role : Role) (t : FrameType) (payload : List Byte) : FrameCheck :=
  if mayReceive role t = false then .wrongDirection
  else
    match parseBody t payload with
    | none => .malformed
    | some f => if f.wellFormed then .good f else .malformed

/-- A buffer that passes the first two checks is judged by its type byte and its body without the CRC. -/
theorem checkFrame_of_crc (role : Role) (type : Byte) {body : List Byte} (hlen : 2 ≤ body.length)
    (hcrc : crc16 (type :: body) = 0#16) :
    checkFrame role (type :: body) =
      match frameTypeOfByte type with
      | none => .unknownType
      | some t => judgeTyped role t (body.take (body.length - 2)) := by
  rw [checkFrame, List.length_cons, if_neg (by omega), if_neg (by simp [hcrc])]
  rfl

theorem checkFrame_typed (role : Role) (t : FrameType) {body : List Byte} (hlen : 2 ≤ body.length)
    (hcrc : crc16 (typeByte t :: body) = 0#16) :
    checkFrame role (typeByte t :: body) = judgeTyped role t (body.take (body.length - 2)) := by
  rw [checkFrame_of_crc role _ hlen hcrc, frameTypeOfByte_typeByte]

/-- A frame of a type that the role may receive is malformed exactly when it gives no well-formed frame. -/
theorem judgeTyped_malformed {role : Role} {t : FrameType} {payload : List Byte} (hmay : mayReceive role t = true)
    (hbad : ∀ f, parseBody t payload = some f → f.wellFormed = false) : judgeTyped role t payload = .malformed := by
  rw [judgeTyped, if_neg (by simp [hmay])]
  split
  · rfl
  · rename_i f hparse
    rw [if_neg (by simp [hbad f hparse])]

/-- What the last two checks pass (R101, R102). -/
theorem judgeTyped_good_iff {role : Role} {t : FrameType} {payload : List Byte} {f : Frame} :
    judgeTyped role t payload = .good f ↔
      mayReceive role t = true ∧ parseBody t payload = some f ∧ f.wellFormed = true := by
  unfold judgeTyped
  cases mayReceive role t <;> cases hparse : parseBody t payload <;> simp
  rename_i g
  cases hgood : g.wellFormed <;> simp <;> rintro rfl <;> simp [hgood]

/-! ## Reading back what is sent -/

/-- The body of a well-formed frame reads back with every field. -/
theorem parseBody_body (f : Frame) (h : f.wellFormed = true) : parseBody (frameType f) f.body.tail = some f := by
  cases f with
  | data d =>
    have hparse := parseContent_bytes d.content h
    simp only [frameType, Frame.body, seqBytes, be16Bytes, List.cons_append, List.nil_append, List.tail_cons, parseBody,
      hparse, seqOfBytes_split, Option.map_some]
  | link l =>
    obtain ⟨hnak, hreject⟩ := linkFlags_bits l
    simp only [frameType, Frame.body, seqBytes, be16Bytes, List.cons_append, List.nil_append, List.tail_cons, parseBody,
      seqOfBytes_split, hnak, hreject]
  | hello l =>
    obtain ⟨hseen, hfresh, hconsistent, hreject⟩ := helloFlags_bits l
    simp only [frameType, Frame.body, seqBytes, be16Bytes, List.cons_append, List.nil_append, List.tail_cons, parseBody,
      seqOfBytes_split, be16_split, hseen, hfresh, hconsistent, hreject, roleOfByte_roleByte, Option.map_some]
  | bye r => cases r <;> rfl

theorem withCrc_length (bytes : List Byte) : (withCrc bytes).length = bytes.length + 2 := by
  simp [withCrc, be16Bytes]

/-- Every well-formed frame passes the five checks at a role that may receive its type. -/
theorem checkFrame_bytes {f : Frame} {role : Role} (hgood : f.wellFormed = true)
    (hmay : mayReceive role (frameType f) = true) : checkFrame role f.bytes = .good f := by
  have hbytes : f.bytes = typeByte (frameType f) :: (f.body.tail ++ be16Bytes (crc16 f.body)) := by
    rw [Frame.bytes, withCrc]
    nth_rewrite 1 [body_eq f]
    rfl
  have hcrc : crc16 f.bytes = 0#16 := crc16_withCrc f.body
  rw [hbytes] at hcrc ⊢
  have htwo : (be16Bytes (crc16 f.body)).length = 2 := rfl
  rw [checkFrame_typed role _ (by rw [List.length_append, htwo]; omega) hcrc]
  have hpayload : (f.body.tail ++ be16Bytes (crc16 f.body)).take
      ((f.body.tail ++ be16Bytes (crc16 f.body)).length - 2) = f.body.tail := by
    rw [List.length_append, htwo, Nat.add_sub_cancel, List.take_left]
  rw [hpayload]
  exact judgeTyped_good_iff.2 ⟨hmay, parseBody_body f hgood, hgood⟩

/-! ## What the parser accepts -/

theorem wordBytes_length (ws : List MaskedWord) : (ws.flatMap MaskedWord.bytes).length = 5 * ws.length := by
  induction ws with
  | nil => rfl
  | cons w ws ih =>
    rw [List.flatMap_cons, List.length_append, ih, List.length_cons]
    simp [MaskedWord.bytes]
    omega

theorem runBytes_length (r : Run) : r.bytes.length = 5 + 5 * r.words.length := by
  rw [Run.bytes, List.length_append, wordBytes_length]
  rfl

/-- The words that the parser takes are as many as asked for, in five bytes each. -/
theorem parseWords_length {n : Nat} {l : List Byte} {ws : List MaskedWord} {rest : List Byte}
    (h : parseWords n l = some (ws, rest)) : ws.length = n ∧ l.length = 5 * n + rest.length := by
  induction n, l using parseWords.induct generalizing ws with
  | case1 l =>
    simp only [parseWords, Option.some.injEq, Prod.mk.injEq] at h
    obtain ⟨rfl, rfl⟩ := h
    simp
  | case2 n m b3 b2 b1 b0 l hm ws' rest' hrest ih =>
    simp only [parseWords, hm, if_true, hrest, Option.some.injEq, Prod.mk.injEq] at h
    obtain ⟨rfl, rfl⟩ := h
    obtain ⟨hws, hl⟩ := ih hrest
    simp only [List.length_cons]
    omega
  | case3 n m b3 b2 b1 b0 l hm hrest ih => simp [parseWords, hm, hrest] at h
  | case4 n m b3 b2 b1 b0 l hm => simp [parseWords, hm] at h
  | case5 n l hshort => simp [parseWords] at h

/-- The runs that the parser takes are as many as asked for, in the bytes those runs have. -/
theorem parseRuns_length {n : Nat} {l : List Byte} {rs : List Run} {rest : List Byte}
    (h : parseRuns n l = some (rs, rest)) :
    rs.length = n ∧ l.length = (rs.flatMap Run.bytes).length + rest.length := by
  induction n, l using parseRuns.induct generalizing rs with
  | case1 l =>
    simp only [parseRuns, Option.some.injEq, Prod.mk.injEq] at h
    obtain ⟨rfl, rfl⟩ := h
    simp
  | case2 n w a2 a1 a0 len l ws l' hwords rs' rest' hruns ih =>
    simp only [parseRuns, hwords, hruns, Option.some.injEq, Prod.mk.injEq] at h
    obtain ⟨rfl, rfl⟩ := h
    obtain ⟨hrs, hl'⟩ := ih hruns
    obtain ⟨hws, hl⟩ := parseWords_length hwords
    rw [List.flatMap_cons, List.length_append, runBytes_length]
    simp only [List.length_cons]
    omega
  | case3 n w a2 a1 a0 len l ws l' hwords hruns ih => simp [parseRuns, hwords, hruns] at h
  | case4 n w a2 a1 a0 len l hwords => simp [parseRuns, hwords] at h
  | case5 n l hshort => simp [parseRuns] at h

/-- The kind byte of a content (R97). -/
def kindByte : Content → Byte
  | .write _ => 0x01#8
  | .copy _ => 0x02#8
  | .table _ _ => 0x03#8
  | .generation _ => 0x04#8
  | .synced _ => 0x05#8

theorem tableBytes_length (records : Bank) (complete : Bool) : (Content.table records complete).bytes.length = 98 := by
  simp [Content.bytes, List.length_flatMap, windowBytes_length, windowIds]

/-- A content that the parser accepts begins with its kind byte and has the bytes it is sent in. -/
theorem parseContent_some {l : List Byte} {c : Content} (h : parseContent l = some c) :
    l.head? = some (kindByte c) ∧ l.length = c.bytes.length := by
  unfold parseContent at h
  split at h
  · split at h
    · rename_i hparse
      obtain ⟨_, hlen⟩ := parseRuns_length hparse
      obtain rfl := Option.some.inj h
      simpa [kindByte, Content.bytes] using hlen
    · cases h
  · split at h
    · rename_i hparse
      obtain ⟨_, hlen⟩ := parseRuns_length hparse
      obtain rfl := Option.some.inj h
      simpa [kindByte, Content.bytes] using hlen
    · cases h
  · split at h
    · split at h
      · rename_i hrecords
        obtain rfl := Option.some.inj h
        exact ⟨rfl, by rw [tableBytes_length]; simp [hrecords.1]⟩
      · cases h
    · cases h
  · obtain rfl := Option.some.inj h
    exact ⟨rfl, rfl⟩
  · obtain rfl := Option.some.inj h
    exact ⟨rfl, rfl⟩
  · cases h

/-- A GENERATION or SYNCED content carries the generation of its two bytes. -/
theorem parseContent_zero {kind : Byte} {rest : List Byte} {c : Content}
    (h : parseContent (kind :: 0x00#8 :: 0x00#8 :: rest) = some c) (hkind : kind = 0x04#8 ∨ kind = 0x05#8) : c.wellFormed = false := by
  rcases hkind with rfl | rfl <;> cases rest <;> simp [parseContent] at h <;> subst h <;> rfl

theorem eq_roleByte_of_roleOfByte {b : Byte} {r : Role} (h : roleOfByte b = some r) : b = roleByte r := by
  unfold roleOfByte at h
  split_ifs at h with h0 h1 h2 <;> cases h
  · exact h0
  · exact h1
  · exact h2

/-- The body of a DATA frame that the parser accepts: its seq field and its content. -/
theorem parseBody_data {p : List Byte} {f : Frame} (h : parseBody .data p = some f) :
    ∃ q1 q0 rest c, p = q1 :: q0 :: rest ∧ parseContent rest = some c ∧
      f = .data { seq := seqOfBytes q1 q0, content := c } := by
  unfold parseBody at h
  split at h
  case h_1 q1 q0 rest _ =>
    obtain ⟨c, hc, rfl⟩ := Option.map_eq_some_iff.1 h
    exact ⟨q1, q0, rest, c, rfl, hc, rfl⟩
  all_goals simp_all

theorem parseBody_link {p : List Byte} {f : Frame} (h : parseBody .link p = some f) :
    p.length = 5 ∧ ∃ l, f = .link l := by
  unfold parseBody at h
  split at h
  case h_2 => exact ⟨rfl, _, (Option.some.inj h).symm⟩
  all_goals simp_all

theorem parseBody_hello {p : List Byte} {f : Frame} (h : parseBody .hello p = some f) :
    p.length = 11 ∧ ∃ ro g, p[1]? = some ro ∧ f = .hello g ∧ roleOfByte ro = some g.role := by
  unfold parseBody at h
  split at h
  case h_3 =>
    obtain ⟨role, hrole, rfl⟩ := Option.map_eq_some_iff.1 h
    exact ⟨rfl, _, _, rfl, rfl, hrole⟩
  all_goals simp_all

theorem parseBody_bye {p : List Byte} {f : Frame} (h : parseBody .bye p = some f) :
    p.length = 1 ∧ (p.head? = some 0x01#8 ∨ p.head? = some 0x02#8) ∧ ∃ r, f = .bye r := by
  unfold parseBody at h
  split at h
  case h_4 r _ =>
    split_ifs at h with h1 h2
    · exact ⟨rfl, by simp [h1], _, (Option.some.inj h).symm⟩
    · exact ⟨rfl, by simp [h2], _, (Option.some.inj h).symm⟩
  all_goals simp_all

/-- A body that the parser accepts gives a frame of its type, and has the length of that frame's body. -/
theorem parseBody_some {t : FrameType} {p : List Byte} {f : Frame} (h : parseBody t p = some f) :
    frameType f = t ∧ p.length + 3 = f.bytes.length := by
  rw [Frame.bytes, withCrc_length]
  cases t with
  | data =>
    obtain ⟨q1, q0, rest, c, rfl, hc, rfl⟩ := parseBody_data h
    obtain ⟨_, hlen⟩ := parseContent_some hc
    simp [frameType, Frame.body, seqBytes, be16Bytes, hlen]
  | link =>
    obtain ⟨hlen, l, rfl⟩ := parseBody_link h
    exact ⟨rfl, by rw [hlen]; rfl⟩
  | hello =>
    obtain ⟨hlen, _, g, _, rfl, _⟩ := parseBody_hello h
    exact ⟨rfl, by rw [hlen]; rfl⟩
  | bye =>
    obtain ⟨hlen, _, r, rfl⟩ := parseBody_bye h
    exact ⟨rfl, by rw [hlen]; rfl⟩

/-! ## What the checks refuse and pass -/

/-- What passes the checks is a well-formed frame, in as many bytes as it has, of a type the role may receive. -/
theorem checkFrame_good {role : Role} {buffer : List Byte} {f : Frame} (h : checkFrame role buffer = .good f) :
    f.wellFormed = true ∧ buffer.length = f.bytes.length ∧ mayReceive role (frameType f) = true := by
  by_cases hshort : buffer.length < 3
  · simp [checkFrame, hshort] at h
  by_cases hcrc : crc16 buffer = 0#16
  · obtain ⟨type, body, rfl⟩ : ∃ type body, buffer = type :: body := by
      cases buffer with
      | nil => simp at hshort
      | cons type body => exact ⟨type, body, rfl⟩
    rw [List.length_cons] at hshort ⊢
    rw [checkFrame_of_crc role type (by omega) hcrc] at h
    split at h
    · cases h
    · obtain ⟨hmay, hparse, hgood⟩ := judgeTyped_good_iff.1 h
      obtain ⟨rfl, hlen⟩ := parseBody_some hparse
      rw [List.length_take] at hlen
      exact ⟨hgood, by omega, hmay⟩
  · simp [checkFrame, hshort, hcrc] at h

/-- The content of a well-formed DATA frame: a COPY has 16 words, and the other kinds have their fixed lengths. -/
theorem contentBytes_length {c : Content} (h : c.wellFormed = true) :
    (kindByte c = 0x02#8 → c.bytes.length = 87) ∧ (kindByte c = 0x03#8 → c.bytes.length = 98) ∧
      (kindByte c = 0x04#8 ∨ kindByte c = 0x05#8 → c.bytes.length = 3) := by
  cases c with
  | write rs => simp [kindByte]
  | copy r =>
    simp only [Content.wellFormed, Bool.and_eq_true, decide_eq_true_eq] at h
    obtain ⟨⟨_, hlen⟩, _⟩ := h
    simp [kindByte, Content.bytes, runBytes_length, hlen]
  | table records complete => simp [kindByte, tableBytes_length]
  | generation g => simp [kindByte, Content.bytes, be16Bytes]
  | synced g => simp [kindByte, Content.bytes, be16Bytes]

/-- A DATA frame whose kind byte allows no such body is malformed (R102). -/
theorem parseBody_data_malformed {p crc : List Byte} {kind : Byte} (hcrc : crc.length = 2)
    (hkind : (p ++ crc)[2]? = some kind)
    (hbad : kind = 0x00#8 ∨ 6 ≤ kind.toNat ∨ (kind = 0x02#8 ∧ (p ++ crc).length ≠ 91) ∨
      (kind = 0x03#8 ∧ (p ++ crc).length ≠ 102) ∨
      ((kind = 0x04#8 ∨ kind = 0x05#8) ∧
        ((p ++ crc).length ≠ 7 ∨ ((p ++ crc)[3]? = some 0x00#8 ∧ (p ++ crc)[4]? = some 0x00#8))))
    {f : Frame} (h : parseBody .data p = some f) : f.wellFormed = false := by
  by_contra hgood
  rw [Bool.not_eq_false] at hgood
  obtain ⟨q1, q0, rest, c, rfl, hc, rfl⟩ := parseBody_data h
  obtain ⟨hhead, hlen⟩ := parseContent_some hc
  have hcontent : c.wellFormed = true := hgood
  obtain ⟨hcopy, htable, hshort⟩ := contentBytes_length hcontent
  obtain ⟨code, rest, rfl⟩ : ∃ code rest', rest = code :: rest' := by
    cases rest with
    | nil => cases hhead
    | cons code rest => exact ⟨code, rest, rfl⟩
  obtain rfl : code = kind := Option.some.inj hkind
  obtain rfl : code = kindByte c := Option.some.inj hhead
  simp only [List.length_append, List.length_cons, hcrc] at hbad hlen
  rcases hbad with hzero | hlarge | ⟨htwo, hne⟩ | ⟨hthree, hne⟩ | ⟨hfour, hne | ⟨hhi, hlo⟩⟩
  · cases c <;> simp [kindByte] at hzero
  · cases c <;> simp [kindByte] at hlarge
  · have := hcopy htwo
    omega
  · have := htable hthree
    omega
  · have := hshort hfour
    omega
  · have hthree := hshort hfour
    obtain ⟨hi, lo, rfl⟩ : ∃ hi lo, rest = [hi, lo] := List.length_eq_two.1 (by omega)
    obtain rfl : hi = 0x00#8 := Option.some.inj hhi
    obtain rfl : lo = 0x00#8 := Option.some.inj hlo
    simp [parseContent_zero hc hfour] at hcontent

/-- Settles O49: the parser inverts the layouts, and what it accepts has the lengths of the layouts. -/
theorem framesReadBack : Obligations.FramesReadBack := by
  refine ⟨fun f role hgood hdata hlink => checkFrame_bytes hgood ?_, fun role buffer hshort => ?_,
    fun role buffer hlen hcrc => ?_, fun role type body hlen hcrc => ?_, fun role buffer f h => ?_⟩
  · cases f with
    | data d => simp [frameType, mayReceive, hdata d rfl]
    | link l => simp [frameType, mayReceive, hlink l rfl]
    | hello g => rfl
    | bye r => rfl
  · simp [checkFrame, hshort]
  · simp [checkFrame, show ¬ buffer.length < 3 by omega, hcrc]
  · obtain ⟨p, crc, rfl, htwo⟩ : ∃ p crc, body = p ++ crc ∧ crc.length = 2 :=
      ⟨_, _, (List.take_append_drop (body.length - 2) body).symm, by rw [List.length_drop]; omega⟩
    have htake : (p ++ crc).take ((p ++ crc).length - 2) = p := by
      rw [List.length_append, htwo, Nat.add_sub_cancel, List.take_left]
    have htyped : ∀ t, type = typeByte t → checkFrame role (type :: (p ++ crc)) = judgeTyped role t p := by
      rintro t rfl
      rw [checkFrame_typed role t hlen hcrc, htake]
    have hlength : (p ++ crc).length = p.length + 2 := by rw [List.length_append, htwo]
    refine ⟨fun hnone => ?_, fun hwrong => ?_, fun hmay => ?_, fun htype hbad => ?_, fun htype hbad => ?_,
      fun htype hrole hbad => ?_, fun kind htype hrole hkind hbad => ?_⟩
    · rw [checkFrame_of_crc role type hlen hcrc, frameTypeOfByte_eq_none hnone]
    · rcases hwrong with ⟨htype, hrole⟩ | ⟨htype, hrole⟩
      · rw [htyped .data htype]
        simp [judgeTyped, mayReceive, hrole]
      · rw [htyped .link htype]
        simp [judgeTyped, mayReceive, hrole]
    · obtain ⟨t, htype, hallowed⟩ : ∃ t, type = typeByte t ∧ mayReceive role t = true := by
        rcases hmay with ⟨htype, rfl⟩ | ⟨htype, rfl⟩ | htype | htype
        · exact ⟨.data, htype, rfl⟩
        · exact ⟨.link, htype, rfl⟩
        · exact ⟨.hello, htype, rfl⟩
        · exact ⟨.bye, htype, rfl⟩
      rw [htyped t htype]
      by_cases hpass : ∃ f, judgeTyped role t p = .good f
      · exact Or.inr hpass
      · refine Or.inl (judgeTyped_malformed hallowed fun f hparse => ?_)
        by_contra hgood
        exact hpass ⟨f, judgeTyped_good_iff.2 ⟨hallowed, hparse, by simpa using hgood⟩⟩
    · rw [htyped .bye htype]
      refine judgeTyped_malformed rfl fun f hparse => ?_
      obtain ⟨hone, hhead, _⟩ := parseBody_bye hparse
      obtain ⟨r, rfl⟩ := List.length_eq_one_iff.1 hone
      simp [htwo] at hbad
      simp_all
    · rw [htyped .hello htype]
      refine judgeTyped_malformed rfl fun f hparse => ?_
      obtain ⟨heleven, ro, g, hro, rfl, hrole⟩ := parseBody_hello hparse
      have hbyte : (p ++ crc)[1]? = some ro := by rw [List.getElem?_append_left (by omega), hro]
      rcases hbad with hbad | ⟨hprimary, hsecondary⟩
      · omega
      · obtain rfl := eq_roleByte_of_roleOfByte hrole
        rw [hbyte] at hprimary hsecondary
        cases hg : g.role <;> simp_all [Frame.wellFormed]
    · subst hrole
      rw [htyped .link htype]
      refine judgeTyped_malformed rfl fun f hparse => ?_
      obtain ⟨hfive, _⟩ := parseBody_link hparse
      omega
    · subst hrole
      rw [htyped .data htype]
      exact judgeTyped_malformed rfl fun f hparse => parseBody_data_malformed htwo hkind hbad hparse
  · obtain ⟨hgood, hlen, hmay⟩ := checkFrame_good h
    refine ⟨hgood, hlen, ?_, ?_⟩
    · rintro d rfl
      simpa [frameType, mayReceive] using hmay
    · rintro l rfl
      simpa [frameType, mayReceive] using hmay

end Sys2Proof.Proofs
end
